-- ==== Sys2Proof/Word.lean ====
section
/-! DEFINITION. The width and count parameters of 00_scope.md R9, the word types built on them, and the names of the twelve
snapshot fields. -/

namespace Sys2Proof

/-! ### Parameters that fix a type (R9, log 6) -/

/-- `N_PORTS`: virtual controller ports, and snapshots. -/
@[simp] abbrev nPorts : Nat := 2

/-- `N_OUT`: host-facing data output lines. -/
@[simp] abbrev nOut : Nat := 4

/-- `SNAP_BITS`: logical button bits per snapshot. -/
@[simp] abbrev snapBits : Nat := 12

/-- `SNAP_WORD_BITS`: width of the word that holds a snapshot; any value of at least `SNAP_BITS` gives the same behaviour. -/
@[simp] abbrev snapWordBits : Nat := 16

/-- `SR_FRAME_CLOCKS`: clock pulses per frame. -/
@[simp] abbrev srFrameClocks : Nat := 16

/-- `SR_BITS_PER_CLOCK`: bits shifted in per clock. -/
@[simp] abbrev srBitsPerClock : Nat := 2

/-- `SR_WORD_BITS`: bits delivered per frame, `SR_FRAME_CLOCKS` times `SR_BITS_PER_CLOCK`. -/
@[simp] abbrev srWordBits : Nat := 32

/-- `TM_LINES`: toggle-multiplex input lines. -/
@[simp] abbrev tmLines : Nat := 6

/-! ### Words -/

/-- One word of the snapshot pair (R21). -/
abbrev SnapWord := BitVec snapWordBits

/-- Format SW, a controller snapshot: 12 button bits, 1 = pressed (R21, R92). -/
abbrev Snapshot := BitVec snapBits

/-- Format FW, a frame word: 32 raw line levels (R91). -/
abbrev FrameWord := BitVec srWordBits

/-- One sample of the serial lines: bit c from controller c + 1 (R41, R141). -/
abbrev SrSample := BitVec srBitsPerClock

/-- Format TS, one sample of the six toggle-multiplex input lines (R94). -/
abbrev TmSample := BitVec tmLines

/-- Format ON, the levels of the four host-facing output lines (R93). -/
abbrev Nibble := BitVec nOut

/-- The twelve fields of a snapshot, in the order of their bits (R21). -/
inductive Field where
  | up | right | down | left | b1 | b2 | bsel | brun | x0 | x1 | x2 | x3
  deriving DecidableEq, Repr

end Sys2Proof
end

