-- ==== Sys2Proof/Config.lean ====
section
/-! DEFINITION. What an implementation fixes (the parameters of 00_scope.md R9), what the environment chooses (R13), and the
free values of the model. -/

namespace Sys2Proof

/-- The three sampling points of a toggle-multiplex poll (R178). -/
inductive TmPoint where
  | first | second | final
  deriving DecidableEq, Repr, Inhabited

/-- The parameters of R9 that fix no type, and the environment constant `SEQ_AVAILABLE` (R41). Those that fix a type are the
constants of Word.lean (log 6). A value of this type stands in `State.params`; no step changes it (log 1). -/
structure Params where
  /-- `SR_POS`: serial position of each field, in the order of the fields' bits (R148). -/
  srPos : Vector (Fin snapBits) snapBits
  /-- `TM_PLACE`: sampling point and input line of each field `UP` .. `X2`, in the order of the fields' bits; `X3` has none
  (R178, R181). -/
  tmPlace : Vector (TmPoint × Fin tmLines) 11
  /-- `TM_UNLOCK_PAIRS` (R97). -/
  tmUnlockPairs : Nat
  /-- `TM_SEL_INIT` (R171). -/
  tmSelInit : Bool
  /-- `TM_PWR_ACTIVE` (R171). -/
  tmPwrActive : Bool
  /-- `TM_PROBE_MASK` (R201). -/
  tmProbeMask : TmSample
  /-- `TM_ID_PHASE` (R172). -/
  tmIdPhase : Nat
  /-- `TM_EXT_DETECT` as its truth table: bit v says whether sample v means an extended controller (R183). -/
  tmExtTable : BitVec 64
  /-- `SR_LATCH_ACTIVE` (R143). -/
  srLatchActive : Bool
  /-- `SR_CLK_IDLE` (R144). -/
  srClkIdle : Bool
  /-- `CNT_SAT` (R218). -/
  cntSat : Nat
  /-- `SEQ_AVAILABLE`, the platform's answer to the acquisition of the sequencing resource (R41, R145). -/
  seqAvailable : Bool
  /-- `SR_LATCH_CLOCKS` (R143); no meaning reads it. -/
  srLatchClocks : Nat
  /-- `F_SR_CLK` in hertz (R303); no meaning reads it. -/
  srClkHz : Nat
  /-- `T_SETTLE` in nanoseconds (R303); no meaning reads it. -/
  settleNs : Nat
  /-- `T_POLL` in nanoseconds (R303); no meaning reads it. -/
  pollNs : Nat
  /-- `T_BE_RESP` in nanoseconds, where the platform states one (R225, U7); no meaning reads it. -/
  beRespNs : Option Nat
  deriving DecidableEq, Repr

/-- `T_SR_CLK` in nanoseconds, one period of `F_SR_CLK` (R9). -/
def Params.srClkNs (c : Params) : Nat :=
  1000000000 / c.srClkHz

/-- The default of every parameter (R9, R148, R178, R183). `SEQ_AVAILABLE` has none; DESIGN CHOICE 1, log 11. -/
def Params.default : Params where
  srPos := #v[4, 7, 5, 6, 8, 0, 2, 3, 1, 9, 10, 11]
  tmPlace := #v[(.first, 0), (.first, 3), (.first, 1), (.first, 2), (.first, 5), (.first, 4), (.second, 4), (.second, 5),
    (.final, 0), (.final, 1), (.final, 2)]
  tmUnlockPairs := 4
  tmSelInit := true
  tmPwrActive := true
  tmProbeMask := 0b110000#6
  tmIdPhase := 5
  tmExtTable := 0x0001000100010001#64
  srLatchActive := true
  srClkIdle := false
  cntSat := 4
  seqAvailable := true
  srLatchClocks := 1
  srClkHz := 1000000
  settleNs := 20000
  pollNs := 8000000
  beRespNs := none

/-- The levels ENV presents on the input lines (R41). -/
structure Lines where
  /-- `en`: 1 = the host is not addressing the device. -/
  en : Bool
  /-- `sel`: the host's select line. -/
  sel : Bool
  /-- `sr_din[1:0]`: bit 0 from the first controller, bit 1 from the second. -/
  srDin : SrSample
  /-- `tm_in[5:0]`: data lines `d0..d3` below, action-button lines `a0`, `a1` above. -/
  tmIn : TmSample
  deriving DecidableEq, Repr, Inhabited

/-- One choice of the schedule: which agent takes the next step, and for ENV the levels it sets (R13, R112). -/
inductive Choice where
  | env (l : Lines)
  | seq
  | rdr
  | be
  deriving DecidableEq, Repr, Inhabited

/-- Free value: the n-th choice of the schedule where no pending choice says otherwise (R13, log 2). No body: nothing can be
proved of its values. -/
opaque Config.choice : Nat → Choice

/-- Free value: the draw `rd_first` of SR.TRIG (R147, R70 c, log 3). No body. -/
opaque Config.rdFirst : Nat → Bool

end Sys2Proof
end

