-- ==== Sys2Proof/Machine/State.lean ====
section
/-! DEFINITION. The whole state of the block (10_state.md R20 to R40), the input lines and the schedule, and the state right
after power-on (R48). -/

namespace Sys2Proof.Machine

/-- Position of the sequencer in its frame program, 0..17 of R27. -/
inductive SrPc where
  | wait
  | latch
  | shift (k : Fin srFrameClocks)
  deriving DecidableEq, Repr

/-- Position of the reader context (R29). -/
inductive RdrPc where
  | tmInit | tmProbe | select | tmDetect | srInit | tmLoop | srLoop
  deriving DecidableEq, Repr

/-- Micro-step inside SR.POLL (R29): `SUB_CHK`, `SUB_TRIG`, `SUB_WRA`, `SUB_WRB`. -/
inductive RdrSub where
  | chk | trig | wrA | wrB
  deriving DecidableEq, Repr

/-- State of the bus emulator (R30). -/
inductive BeState where
  | idle | addressing
  deriving DecidableEq, Repr

/-- Which reader runs (R36). -/
inductive Mode where
  | boot | tm | sr
  deriving DecidableEq, Repr

/-- The snapshot pair as a list of (port index, word): indices rising, no listed word equal to `unlistedWord`. A cell is a
word, for no store of the block is byte-addressable (R60, R64, log 6). -/
abbrev Memory := List (Nat × SnapWord)

/-- What an unlisted word reads as: the reset value of `SNAP[0]`, `SNAP[1]` (R48). -/
def unlistedWord : SnapWord := 0

/-- The registers of R21 to R40, and four fields of the model's own. -/
structure State where
  /-- The parameters; no step writes them (R9, R20, log 1). -/
  params : Params
  /-- The input lines as ENV presents them now (R41). -/
  lines : Lines
  /-- The coming choices of the schedule, oldest first (R13, log 2). -/
  pending : List Choice
  /-- How many free values have been taken (logs 2, 3). -/
  draws : Nat
  /-- `SNAP[0]`, `SNAP[1]` (R21). -/
  mem : Memory
  /-- `sr_isr` (R22). -/
  srIsr : FrameWord
  /-- `sr_rx_word` (R23). -/
  srRxWord : FrameWord
  /-- `tm_s1` (R24). -/
  tmS1 : TmSample
  /-- `tm_s2` (R24). -/
  tmS2 : TmSample
  /-- `tm_sf` (R24). -/
  tmSf : TmSample
  /-- `tm_sid` (R24). -/
  tmSid : TmSample
  /-- `out[3:0]` (R25). -/
  out : Nibble
  /-- `rd_w` (R26). -/
  rdW : FrameWord
  /-- `rd_c0` (R26). -/
  rdC0 : Snapshot
  /-- `rd_c1` (R26). -/
  rdC1 : Snapshot
  /-- `rd_first` (R26). -/
  rdFirst : Bool
  /-- `sr_pc` (R27). -/
  srPc : SrPc
  /-- `tm_pc` (R28). -/
  tmPc : Nat
  /-- `rdr_pc` (R29). -/
  rdrPc : RdrPc
  /-- `rdr_sub` (R29). -/
  rdrSub : RdrSub
  /-- `be_state` (R30). -/
  beState : BeState
  /-- `sr_rx_valid` (R31). -/
  srRxValid : Bool
  /-- `sr_trig` (R32). -/
  srTrig : Bool
  /-- `ext6` (R33). -/
  ext6 : Bool
  /-- `sr_ok` (R34). -/
  srOk : Bool
  /-- `tm_present` (R35). -/
  tmPresent : Bool
  /-- `mode` (R36). -/
  mode : Mode
  /-- `cnt` (R37). -/
  cnt : Nat
  /-- `port` (R38). -/
  port : Nat
  /-- `prev_sel` (R39). -/
  prevSel : Bool
  /-- `sr_clk` (R40). -/
  srClk : Bool
  /-- `sr_latch` (R40). -/
  srLatch : Bool
  /-- `tm_sel` (R40). -/
  tmSel : Bool
  /-- `tm_pwr` (R40). -/
  tmPwr : Bool
  deriving DecidableEq, Repr

/-- Faults. -/
inductive Fault where
  /-- Raised by SR.SEQ.SHIFT executed while `sr_pc` is no `SHIFT(k)`, where R144 gives it no slot index. Safe: the sequencer
  selects SR.SEQ.SHIFT at `SHIFT(k)` only (R100), so no step of the machine raises it (log 13). -/
  | shiftOutsideFrame
  deriving DecidableEq, Repr

/-- Refusals. -/
inductive Refusal where
  /-- Raised by `exec` for an operation that has no meaning yet. Safe. -/
  | notModelled (mnemonic : String)
  /-- Raised by the step of SEQ, RDR or BE whose decode word is reserved (R98, R99, R102, R110). Safe: unreachable. -/
  | reservedDecodeWord
  /-- Raised by an operation that reads or writes a snapshot of index 2 or more (R61, U24). Safe: no step forms one. -/
  | noSuchSnapshot
  deriving DecidableEq, Repr

/-- The state right after power-on (R48). Zero stands where R48 says unspecified, and every input line is high: DESIGN CHOICE,
logs 7 to 11. -/
def State.reset : State where
  params := Params.default
  lines := { en := true, sel := true, srDin := 0b11#2, tmIn := 0b111111#6 }
  pending := []
  draws := 0
  mem := []
  srIsr := 0
  srRxWord := 0
  tmS1 := 0
  tmS2 := 0
  tmSf := 0
  tmSid := 0
  out := 0
  rdW := 0
  rdC0 := 0
  rdC1 := 0
  rdFirst := false
  srPc := .wait
  tmPc := 0
  rdrPc := .tmInit
  rdrSub := .chk
  beState := .idle
  srRxValid := false
  srTrig := false
  ext6 := false
  srOk := false
  tmPresent := false
  mode := .boot
  cnt := 0
  port := 0
  prevSel := false
  srClk := false
  srLatch := false
  tmSel := false
  tmPwr := false

end Sys2Proof.Machine
end

