-- ==== Sys2Proof/Machine/Operands.lean ====
section
/-! DEFINITION. Operand assembly: the bit-level functions of 30_encoding.md R103 to R107, the placement tables of R148 and
R178, the phase table of R97, and the shift-in of R144. -/

namespace Sys2Proof.Machine

/-- The n-bit vector whose bit k is `f k`. -/
def packBits (f : Nat → Bool) : (n : Nat) → BitVec n
  | 0 => 0#0
  | n + 1 => BitVec.cons (f n) (packBits f n)

/-- The bit of a snapshot that holds a field (R21). -/
def fieldBit : Field → Fin snapBits
  | .up => 0
  | .right => 1
  | .down => 2
  | .left => 3
  | .b1 => 4
  | .b2 => 5
  | .bsel => 6
  | .brun => 7
  | .x0 => 8
  | .x1 => 9
  | .x2 => 10
  | .x3 => 11

/-- The snapshot whose field f has the value `g f` (R21, R92). -/
def packFields (g : Field → Bool) : Snapshot :=
  packBits (fun
    | 0 => g .up
    | 1 => g .right
    | 2 => g .down
    | 3 => g .left
    | 4 => g .b1
    | 5 => g .b2
    | 6 => g .bsel
    | 7 => g .brun
    | 8 => g .x0
    | 9 => g .x1
    | 10 => g .x2
    | _ => g .x3) snapBits

/-- `deint(v, c)`: bit k is `v[2k + c]` (R103). -/
def deint (v : FrameWord) (c : Nat) : BitVec srFrameClocks :=
  packBits (fun k => v.getLsbD (srBitsPerClock * k + c)) srFrameClocks

/-- `SR_POS(f)`: the serial position of a field (R148). -/
def srPosOf (c : Params) (f : Field) : Fin snapBits :=
  c.srPos.get (fieldBit f)

/-- `place_SR(m)` (R105). -/
def placeSr (c : Params) (m : BitVec snapBits) : Snapshot :=
  packFields fun f => m.getLsbD (srPosOf c f)

/-- The mask `0x0FFF`: `SNAP_BITS` ones (R104, R108). -/
def serialMask : BitVec srFrameClocks :=
  (BitVec.allOnes snapBits).setWidth srFrameClocks

/-- The snapshot of controller c + 1 that a frame word decodes to: complement, de-interleave, mask, place (R104, R105, R147). -/
def decodeFrame (c : Params) (w : FrameWord) (ctl : Nat) : Snapshot :=
  placeSr c ((deint (~~~ w) ctl &&& serialMask).setWidth snapBits)

/-- `TM_PLACE(f)`: the sampling point and the line of a field; `X3` has none (R178, R181). -/
def tmPlaceOf (c : Params) : Field → Option (TmPoint × Fin tmLines)
  | .up => some (c.tmPlace.get 0)
  | .right => some (c.tmPlace.get 1)
  | .down => some (c.tmPlace.get 2)
  | .left => some (c.tmPlace.get 3)
  | .b1 => some (c.tmPlace.get 4)
  | .b2 => some (c.tmPlace.get 5)
  | .bsel => some (c.tmPlace.get 6)
  | .brun => some (c.tmPlace.get 7)
  | .x0 => some (c.tmPlace.get 8)
  | .x1 => some (c.tmPlace.get 9)
  | .x2 => some (c.tmPlace.get 10)
  | .x3 => none

/-- The three fields that `ext6` gates: `X0`, `X1`, `X2` (R106, R180). -/
def extendedField : Field → Bool
  | .x0 | .x1 | .x2 => true
  | .up | .right | .down | .left | .b1 | .b2 | .bsel | .brun | .x3 => false

/-- The one of three samples that belongs to a sampling point. -/
def pickSample (pt : TmPoint) (p1 p2 pf : TmSample) : TmSample :=
  match pt with
  | .first => p1
  | .second => p2
  | .final => pf

/-- `place_TM(p1, p2, pf, ext6)` of complemented latches: `X0`, `X1`, `X2` are 0 where `ext6` is 0, and `X3` is 0 (R106, R180). -/
def placeTm (c : Params) (p1 p2 pf : TmSample) (ext6 : Bool) : Snapshot :=
  packFields fun f =>
    match tmPlaceOf c f with
    | some (pt, l) => (ext6 || !extendedField f) && (pickSample pt p1 p2 pf).getLsbD l
    | none => false

/-- `dir_half(s) = ~s[3:0]` (R107). -/
def dirHalf (s : Snapshot) : Nibble :=
  ~~~ (s.extractLsb' 0 nOut)

/-- `btn_half(s) = ~s[7:4]` (R107). -/
def btnHalf (s : Snapshot) : Nibble :=
  ~~~ (s.extractLsb' nOut nOut)

/-- The no-data value of the output lines (R107). -/
def noData : Nibble := BitVec.allOnes nOut

/-- The slot that delivers the frame word, k = 15 (R144). -/
def lastSlot : Fin srFrameClocks :=
  ⟨srFrameClocks - 1, by decide⟩

/-- The shift-in `{s, sr_isr[31:2]}` (R144). -/
def shiftIn (isr : FrameWord) (s : SrSample) : FrameWord :=
  s ++ isr.extractLsb' srBitsPerClock (srWordBits - srBitsPerClock)

/-- `N_PH` = 2 x `TM_UNLOCK_PAIRS` + 3 (R9, R97). -/
def nPh (c : Params) : Nat :=
  2 * c.tmUnlockPairs + 3

/-- The silent high and low levels of P unlock pairs (R97). -/
def silentPairs : Nat → List (BitVec 4)
  | 0 => []
  | p + 1 => 0b100#4 :: 0b000#4 :: silentPairs p

/-- The phase table `PH[0 .. N_PH-1]` for P unlock pairs, as TMP words (R97). -/
def phaseTable (p : Nat) : List (BitVec 4) :=
  0b101#4 :: 0b010#4 :: (silentPairs p ++ [0b111#4])

end Sys2Proof.Machine
end

