-- ==== Sys2Proof/Machine/Flags.lean ====
section
/-! DEFINITION. The computations of one-bit results and of the transition counter (45_common_laws.md R236). -/

namespace Sys2Proof.Machine

/-- `tm_present`: some probed line is driven low (R201). -/
def probePresent (c : Params) (x : TmSample) : Bool :=
  (x &&& c.tmProbeMask) != c.tmProbeMask

/-- `TM_EXT_DETECT(v)` (R183). -/
def extDetect (c : Params) (v : TmSample) : Bool :=
  c.tmExtTable.getLsbD v.toNat

/-- The saturating increment `min(cnt + 1, CNT_SAT)` (R218). -/
def countEdge (c : Params) (cnt : Nat) : Nat :=
  min (cnt + 1) c.cntSat

/-- The port index `cnt / 2` (R218). -/
def portOf (cnt : Nat) : Nat :=
  cnt / 2

end Sys2Proof.Machine
end

