-- ==== Sys2Proof/Machine/Ops.lean ====
section
/-! DEFINITION. The named operations over the store, the lines, the queues and the schedule that the meanings share. -/

namespace Sys2Proof.Machine

/-- What an operation answers. -/
abbrev Result := Host.Outcome State Fault Refusal

/-- Go on with the next state, or stop as the first part stopped. -/
def andThen (o : Result) (k : State → Result) : Result :=
  match o with
  | .next s => k s
  | .fault f => .fault f
  | .refused r => .refused r

/-! ### The store -/

/-- The word at an index of the store. -/
def Memory.read : Memory → Nat → SnapWord
  | [], _ => unlistedWord
  | (a, w) :: m, p => if a = p then w else Memory.read m p

/-- The store without any entry for an index. -/
def Memory.erase : Memory → Nat → Memory
  | [], _ => []
  | (a, w) :: m, p => if a = p then Memory.erase m p else (a, w) :: Memory.erase m p

/-- The store with an entry put before the first larger index. -/
def Memory.insert : Memory → Nat → SnapWord → Memory
  | [], p, v => [(p, v)]
  | (a, w) :: m, p, v => if p < a then (p, v) :: (a, w) :: m else (a, w) :: Memory.insert m p v

/-- The store with the word at an index replaced; a word equal to what an unlisted index reads as is not listed. -/
def Memory.write (m : Memory) (p : Nat) (v : SnapWord) : Memory :=
  if v = unlistedWord then m.erase p else (m.erase p).insert p v

/-- Canonical form from an index on: indices rising and below `N_PORTS`, no listed word equal to `unlistedWord`. -/
def Memory.wfFrom (lo : Nat) : Memory → Bool
  | [] => true
  | (a, w) :: m => decide (lo ≤ a) && decide (a < nPorts) && decide (w ≠ unlistedWord) && Memory.wfFrom (a + 1) m

/-- The canonical form of the store. -/
def Memory.wf (m : Memory) : Bool :=
  Memory.wfFrom 0 m

/-- `MemRead(p, 1)`: the low `SNAP_BITS` bits of `SNAP[p]`; none where p is no index of the store (R61). -/
def memRead (p : Nat) (s : State) : Option Snapshot :=
  if p < nPorts then some ((s.mem.read p).setWidth snapBits) else none

/-- `MemWrite(p, 1, v)`: `zext(v)` to the whole word `SNAP[p]`; none where p is no index of the store (R62). -/
def memWrite (p : Nat) (v : Snapshot) (s : State) : Option State :=
  if p < nPorts then some { s with mem := s.mem.write p (v.setWidth snapWordBits) } else none

/-- Go on with the result of a store access, or refuse an index the store does not have (R61, U24). -/
def orNoSnapshot {α : Type} (o : Option α) (k : α → Result) : Result :=
  match o with
  | some a => k a
  | none => .refused .noSuchSnapshot

/-! ### The output lines -/

/-- One level driven on one output line, or on the four data output lines together (R40, R25). -/
inductive Drive where
  | srClk (v : Bool)
  | srLatch (v : Bool)
  | tmSel (v : Bool)
  | tmPwr (v : Bool)
  | out (v : Nibble)
  deriving DecidableEq, Repr

/-- Drive a level on an output line. -/
def State.drive (s : State) : Drive → State
  | .srClk v => { s with srClk := v }
  | .srLatch v => { s with srLatch := v }
  | .tmSel v => { s with tmSel := v }
  | .tmPwr v => { s with tmPwr := v }
  | .out v => { s with out := v }

/-! ### The queues between the reader context and the sequencer -/

/-- Put a trigger into the command queue (R32). -/
def State.putTrigger (s : State) : State :=
  { s with srTrig := true }

/-- Take the trigger from the command queue and discard its dummy value (R32, R142). -/
def State.takeTrigger (s : State) : State :=
  { s with srTrig := false }

/-- Put a frame word into the receive queue (R23, R31). -/
def State.putFrame (s : State) (w : FrameWord) : State :=
  { s with srRxWord := w, srRxValid := true }

/-- Take the frame word from the receive queue into `rd_w` (R31, R146). -/
def State.takeFrame (s : State) : State :=
  { s with rdW := s.srRxWord, srRxValid := false }

/-! ### Conditions

Trap entry does not exist (R257) and there is no return operation (R258): `raise` is the one shared operation that stands in
their place, and it changes nothing. -/

/-- The three conditions (R250). -/
inductive Condition where
  /-- Code 1 (R251). -/
  | resourceUnavailable
  /-- Code 2 (R252). -/
  | controllerAbsent
  /-- Code 3 (R253). -/
  | protocolDesync
  deriving DecidableEq, Repr

/-- The code of a condition (R250). -/
def Condition.code : Condition → Nat
  | .resourceUnavailable => 1
  | .controllerAbsent => 2
  | .protocolDesync => 3

/-- `raise`: names a condition; it transfers no control, saves no state and is visible on no line (R12, R257). -/
def State.raise (s : State) (_c : Condition) : State := s

/-- `raise` where the given test holds (R179, R218). -/
def State.raiseIf (s : State) (test : Bool) (c : Condition) : State :=
  if test then s.raise c else s

/-! ### The toggle-multiplex phase -/

/-- Which latch receives the sample of a phase, the selector `m` of a TMP word (R97). -/
inductive Latch where
  | silent | s1 | s2 | sf
  deriving DecidableEq, Repr

/-- Write a sample into the latch a phase names (R172). -/
def State.latchSample (s : State) (m : Latch) (x : TmSample) : State :=
  match m with
  | .silent => s
  | .s1 => { s with tmS1 := x }
  | .s2 => { s with tmS2 := x }
  | .sf => { s with tmSf := x }

/-- The identification sample of the detection pass (R172, R182). -/
def State.latchIdent (s : State) (x : TmSample) : State :=
  if s.rdrPc = .tmDetect ∧ s.tmPc = s.params.tmIdPhase then { s with tmSid := x } else s

/-- The common pseudocode of the five phase operations: drive, settle, sample, advance (R172). The settle delay changes no
state (R11). -/
def State.phase (s : State) (l : Bool) (m : Latch) : State :=
  let d := ((s.drive (.tmSel l)).latchSample m s.lines.tmIn).latchIdent s.lines.tmIn
  { d with tmPc := d.tmPc + 1 }

/-! ### The schedule and the free values -/

/-- The next choice of the schedule, and the state it leaves: the oldest pending choice, else a free value (R13, log 2). -/
def State.takeChoice (s : State) : Choice × State :=
  match s.pending with
  | c :: cs => (c, { s with pending := cs })
  | [] => (Config.choice s.draws, { s with draws := s.draws + 1 })

/-- An ENV step: set the input lines (R13, R41). -/
def State.setLines (s : State) (l : Lines) : State :=
  { s with lines := l }

/-- Draw `rd_first`, a free value (R147, R70 c, log 3). -/
def State.drawFirst (s : State) : State :=
  { s with rdFirst := Config.rdFirst s.draws, draws := s.draws + 1 }

end Sys2Proof.Machine
end

