-- ==== Sys2Proof/Machine/BusEmulator.lean ====
section
/-! DEFINITION. The bus emulator: three state-update operations and three output operations (44_bus_emulator.md). -/

namespace Sys2Proof.Machine

/-- BE.IDLE; `d` is ignored, `s` is the sampled select level (R217). -/
def execBeIdle (_d s : Bool) (σ : State) : Result :=
  .next { σ with beState := .idle, cnt := 0, port := 0, prevSel := s }

/-- The state after a counted transition (R218). -/
def State.edge (σ : State) (s : Bool) : State :=
  { σ with
    beState := .addressing
    cnt := countEdge σ.params σ.cnt
    port := portOf (countEdge σ.params σ.cnt)
    prevSel := s }

/-- BE.EDGE (R218). -/
def execBeEdge (s : Bool) (σ : State) : Result :=
  .next ((σ.edge s).raiseIf (decide ((σ.edge s).port = nPorts)) .protocolDesync)

/-- BE.HOLD (R219). -/
def execBeHold (s : Bool) (σ : State) : Result :=
  .next { σ with beState := .addressing, prevSel := s }

/-- BE.OUT.DIR; `pp` is the port after the update (R221). -/
def execBeOutDir (pp : BitVec 2) (σ : State) : Result :=
  orNoSnapshot (memRead pp.toNat σ) fun snap => .next (σ.drive (.out (dirHalf snap)))

/-- BE.OUT.BTN; `pp` is the port after the update (R222). -/
def execBeOutBtn (pp : BitVec 2) (σ : State) : Result :=
  orNoSnapshot (memRead pp.toNat σ) fun snap => .next (σ.drive (.out (btnHalf snap)))

/-- BE.OUT.NONE; its operands are ignored (R223). -/
def execBeOutNone (_pp : BitVec 2) (_s : Bool) (σ : State) : Result :=
  .next (σ.drive (.out noData))

end Sys2Proof.Machine
end

