-- ==== Sys2Proof/Machine/ShiftRegister.lean ====
section
/-! DEFINITION. The shift-register reader: the sequencer's operations and the reader context's (41_shift_register_reader.md). -/

namespace Sys2Proof.Machine

/-- SR.SEQ.WAIT (R142). -/
def execSrSeqWait (s : State) : Result :=
  if s.srTrig then .next { s.takeTrigger with srPc := .latch } else .next s

/-- SR.SEQ.LATCH: the latch line is asserted, held for the slot, and deasserted (R143). -/
def execSrSeqLatch (s : State) : Result :=
  let d := (s.drive (.srLatch s.params.srLatchActive)).drive (.srLatch !s.params.srLatchActive)
  .next { d with srPc := .shift 0 }

/-- A clock slot: sample, shift in, one clock pulse (R144). -/
def State.clockSlot (s : State) : State :=
  let d := { s with srIsr := shiftIn s.srIsr s.lines.srDin }
  (d.drive (.srClk !s.params.srClkIdle)).drive (.srClk s.params.srClkIdle)

/-- SR.SEQ.SHIFT (R144). A delivery into a full receive queue stalls the sequencer: no change (DESIGN CHOICE, log 12). -/
def execSrSeqShift (s : State) : Result :=
  match s.srPc with
  | .shift k =>
    if k = lastSlot then
      if s.srRxValid then .next s
      else .next { s.clockSlot.putFrame s.clockSlot.srIsr with srPc := .wait }
    else .next { s.clockSlot with srPc := .shift (k + 1) }
  | .wait => .fault .shiftOutsideFrame
  | .latch => .fault .shiftOutsideFrame

/-- Acquire and program the sequencer, and start the first frame (R145, `SEQ_AVAILABLE` = 1). -/
def State.programSequencer (s : State) : State :=
  let d := (s.drive (.srClk s.params.srClkIdle)).drive (.srLatch !s.params.srLatchActive)
  { d.putTrigger with srOk := true, srPc := .wait, srRxValid := false }

/-- SR.INIT (R145). -/
def execSrInit (s : State) : Result :=
  if s.params.seqAvailable then
    .next { s.programSequencer with rdrPc := .srLoop, rdrSub := .chk }
  else
    .next { s.raise .resourceUnavailable with srOk := false, rdrPc := .srLoop, rdrSub := .chk }

/-- SR.POLL.POP (R146, R152); without a frame nothing changes, so nothing is stored (R72). -/
def execSrPollPop (s : State) : Result :=
  if s.srRxValid then .next { s.takeFrame with rdrSub := .trig } else .next s

/-- SR.TRIG (R147). -/
def execSrTrig (s : State) : Result :=
  let d := s.putTrigger.drawFirst
  .next { d with
    rdC0 := decodeFrame s.params s.rdW 0
    rdC1 := decodeFrame s.params s.rdW 1
    rdrSub := .wrA }

end Sys2Proof.Machine
end

