-- ==== Sys2Proof/Machine/Snapshot.lean ====
section
/-! DEFINITION. The snapshot family: SNAP.WR (40_snapshot_mux.md). -/

namespace Sys2Proof.Machine

/-- The controller, 0 or 1, whose snapshot SNAP.WR stores: `rd_first` in `SUB_WRA`, the other one after it (R131). -/
def snapTarget (s : State) : Nat :=
  if s.rdrSub = .wrA then s.rdFirst.toNat else 1 - s.rdFirst.toNat

/-- The value SNAP.WR stores (R131). -/
def snapValue (s : State) : Snapshot :=
  if snapTarget s = 0 then s.rdC0 else s.rdC1

/-- SNAP.WR (R131); an absent controller stores 0x000 (R151; DEDUCED against R72, log 22), and notes no
condition here (R131; `raised`, log 23). -/
def execSnapWr (s : State) : Result :=
  orNoSnapshot (memWrite (snapTarget s) (snapValue s) s) fun t =>
    .next { t with rdrSub := if s.rdrSub = .wrA then .wrB else .chk }

end Sys2Proof.Machine
end

