-- ==== Sys2Proof/Machine/Startup.lean ====
section
/-! DEFINITION. The one-shot start-up selection (43_startup_selection.md). -/

namespace Sys2Proof.Machine

/-- TM.PROBE (R201). -/
def execTmProbe (s : State) : Result :=
  .next { s with tmPresent := probePresent s.params s.lines.tmIn, rdrPc := .select }

/-- BOOT.SELECT (R202). -/
def execBootSelect (s : State) : Result :=
  if s.tmPresent then .next { s with mode := .tm, tmPc := 0, rdrPc := .tmDetect }
  else .next { s with mode := .sr, rdrPc := .srInit }

end Sys2Proof.Machine
end

