-- ==== Sys2Proof/Machine/ToggleMux.lean ====
section
/-! DEFINITION. The toggle-multiplex reader: initialisation, the five phase operations, commit and detection
(42_toggle_multiplex_reader.md). -/

namespace Sys2Proof.Machine

/-- TM.INIT (R171); the lines are available (log 18). -/
def execTmInit (s : State) : Result :=
  let d := (s.drive (.tmSel s.params.tmSelInit)).drive (.tmPwr s.params.tmPwrActive)
  .next { d with tmPc := 0, rdrPc := .tmProbe }

/-- TM.PH.S1 (R173). -/
def execTmPhS1 (s : State) : Result := .next (s.phase true .s1)

/-- TM.PH.S2 (R174). -/
def execTmPhS2 (s : State) : Result := .next (s.phase false .s2)

/-- TM.PH.HI (R175). -/
def execTmPhHi (s : State) : Result := .next (s.phase true .silent)

/-- TM.PH.LO (R176). -/
def execTmPhLo (s : State) : Result := .next (s.phase false .silent)

/-- TM.PH.SF (R177). -/
def execTmPhSf (s : State) : Result := .next (s.phase true .sf)

/-- The value TM.COMMIT stores (R179, R106). -/
def commitValue (s : State) : Snapshot :=
  placeTm s.params (~~~ s.tmS1) (~~~ s.tmS2) (~~~ s.tmSf) s.ext6

/-- Every latch of the poll is all ones: the condition TM.COMMIT may note (R179, R252). -/
def latchesIdle (s : State) : Bool :=
  s.tmS1 == BitVec.allOnes tmLines && s.tmS2 == BitVec.allOnes tmLines && s.tmSf == BitVec.allOnes tmLines

/-- TM.COMMIT (R179); an absent controller stores 0x000 (R184 a; DEDUCED against R72, log 22). -/
def execTmCommit (s : State) : Result :=
  orNoSnapshot (memWrite 0 (commitValue s) s) fun t =>
    .next { t.raiseIf (latchesIdle s) .controllerAbsent with tmPc := 0 }

/-- TM.DETECT.END (R183). -/
def execTmDetectEnd (s : State) : Result :=
  .next { s with ext6 := extDetect s.params s.tmSid, tmPc := 0, rdrPc := .tmLoop }

end Sys2Proof.Machine
end

