-- ==== Sys2Proof/Syntax.lean ====
section
/-! DEFINITION. The 23 operations (30_encoding.md R109) as one inductive, and their decode words: a format and its bits
(R95, R96, R97, R99, R102). -/

namespace Sys2Proof

/-- The five operation formats (R90). -/
inductive Format where
  | opn | tmp | srs | bew | bow
  deriving DecidableEq, Repr

/-- A decode word: its format and its bits. `OPN` has four bits, the others three, held below a zero bit. The bits alone do
not name an operation: the formats share the numbers (log 4). -/
structure DecodeWord where
  fmt : Format
  bits : BitVec 4
  deriving DecidableEq, Repr

/-- The operations, one constructor per row of the operation table. The operands are the fields of the decode words: `d` and
`s` of BEW (R95), `pp` and `s` of BOW (R96). -/
inductive Instr where
  /-- SNAP.WR (R131). -/
  | snapWr
  /-- SR.SEQ.WAIT (R142). -/
  | srSeqWait
  /-- SR.SEQ.LATCH (R143). -/
  | srSeqLatch
  /-- SR.SEQ.SHIFT (R144); its operand k is implicit in `sr_pc`. -/
  | srSeqShift
  /-- SR.INIT (R145). -/
  | srInit
  /-- SR.POLL.POP (R146). -/
  | srPollPop
  /-- SR.TRIG (R147). -/
  | srTrig
  /-- TM.INIT (R171). -/
  | tmInit
  /-- TM.PH.S1 (R173). -/
  | tmPhS1
  /-- TM.PH.S2 (R174). -/
  | tmPhS2
  /-- TM.PH.HI (R175). -/
  | tmPhHi
  /-- TM.PH.LO (R176). -/
  | tmPhLo
  /-- TM.PH.SF (R177). -/
  | tmPhSf
  /-- TM.COMMIT (R179). -/
  | tmCommit
  /-- TM.DETECT.END (R183). -/
  | tmDetectEnd
  /-- TM.PROBE (R201). -/
  | tmProbe
  /-- BOOT.SELECT (R202). -/
  | bootSelect
  /-- BE.IDLE (R217). -/
  | beIdle (d s : Bool)
  /-- BE.EDGE (R218). -/
  | beEdge (s : Bool)
  /-- BE.HOLD (R219). -/
  | beHold (s : Bool)
  /-- BE.OUT.DIR (R221). -/
  | beOutDir (pp : BitVec 2)
  /-- BE.OUT.BTN (R222). -/
  | beOutBtn (pp : BitVec 2)
  /-- BE.OUT.NONE (R223). -/
  | beOutNone (pp : BitVec 2) (s : Bool)
  deriving DecidableEq, Repr

end Sys2Proof
end

