-- ==== Sys2Proof/Machine/Dispatch.lean ====
section
/-! DEFINITION. One operation: its meaning, by constructor (R109). -/

namespace Sys2Proof.Machine

def exec (i : Instr) (s : State) : Host.Outcome State Fault Refusal :=
  match i with
  | .snapWr => Sys2Proof.Machine.execSnapWr s
  | .srSeqWait => Sys2Proof.Machine.execSrSeqWait s
  | .srSeqLatch => Sys2Proof.Machine.execSrSeqLatch s
  | .srSeqShift => Sys2Proof.Machine.execSrSeqShift s
  | .srInit => Sys2Proof.Machine.execSrInit s
  | .srPollPop => Sys2Proof.Machine.execSrPollPop s
  | .srTrig => Sys2Proof.Machine.execSrTrig s
  | .tmInit => Sys2Proof.Machine.execTmInit s
  | .tmPhS1 => Sys2Proof.Machine.execTmPhS1 s
  | .tmPhS2 => Sys2Proof.Machine.execTmPhS2 s
  | .tmPhHi => Sys2Proof.Machine.execTmPhHi s
  | .tmPhLo => Sys2Proof.Machine.execTmPhLo s
  | .tmPhSf => Sys2Proof.Machine.execTmPhSf s
  | .tmCommit => Sys2Proof.Machine.execTmCommit s
  | .tmDetectEnd => Sys2Proof.Machine.execTmDetectEnd s
  | .tmProbe => Sys2Proof.Machine.execTmProbe s
  | .bootSelect => Sys2Proof.Machine.execBootSelect s
  | .beIdle d e => Sys2Proof.Machine.execBeIdle d e s
  | .beEdge e => Sys2Proof.Machine.execBeEdge e s
  | .beHold e => Sys2Proof.Machine.execBeHold e s
  | .beOutDir pp => Sys2Proof.Machine.execBeOutDir pp s
  | .beOutBtn pp => Sys2Proof.Machine.execBeOutBtn pp s
  | .beOutNone pp e => Sys2Proof.Machine.execBeOutNone pp e s

end Sys2Proof.Machine
end

