-- ==== Sys2Proof/WellFormed.lean ====
section
/-! DEFINITION. Which terms of Instr are operations of the block, and which parameters the rules admit. -/

namespace Sys2Proof

/-- An operation whose operands are those its decode word can carry: BE.OUT.DIR and BE.OUT.BTN address port 0 or 1 (BOW `0ps`),
BE.OUT.NONE has port 2 or 3 in its word (BOW `1--`) (R96). Every other operand takes all its values. -/
def WellFormed : Instr → Bool
  | .beOutDir pp => decide (pp.toNat < 2)
  | .beOutBtn pp => decide (pp.toNat < 2)
  | .beOutNone pp _ => decide (2 ≤ pp.toNat)
  | .snapWr | .srSeqWait | .srSeqLatch | .srSeqShift | .srInit | .srPollPop | .srTrig
  | .tmInit | .tmPhS1 | .tmPhS2 | .tmPhHi | .tmPhLo | .tmPhSf | .tmCommit | .tmDetectEnd
  | .tmProbe | .bootSelect | .beIdle _ _ | .beEdge _ | .beHold _ => true

/-- The grouping of R178: the sampling point of each field `UP` .. `X2`. -/
def tmGrouping : List TmPoint :=
  [.first, .first, .first, .first, .first, .first, .second, .second, .final, .final, .final]

/-- What the rules require of the parameters: `SR_POS` is a bijection onto 0..11 (R148); `TM_PLACE` respects the grouping and is
injective (R178); `CNT_SAT` is at least 4, the count at which the ports end (U21); the identification phase is a phase
(R172). -/
def Params.WellFormed (c : Params) : Bool :=
  decide c.srPos.toList.Nodup &&
  decide (c.tmPlace.toList.map Prod.fst = tmGrouping) &&
  decide c.tmPlace.toList.Nodup &&
  decide (2 * nPorts ≤ c.cntSat) &&
  decide (c.tmIdPhase < 2 * c.tmUnlockPairs + 3)

end Sys2Proof
end

