-- ==== Sys2Proof/Decode.lean ====
section
/-! DEFINITION. The decoder, total on every word and rejecting by name, and the encoder (30_encoding.md R95, R96, R97, R99,
R102, R109). -/

namespace Sys2Proof

/-- Why a word is no operation. -/
inductive Reject where
  /-- OPN 10 to 15 (R102). -/
  | reservedOpn
  /-- OPN 9: no operation of its own; it dispatches to the phase-table entry (R102, R109). -/
  | phaseDispatch
  /-- TMP 001, 011, 110 (R98). -/
  | reservedTmp
  /-- SRS words other than 000, 100, 011 (R99). -/
  | reservedSrs
  /-- A bit above a three-bit format. -/
  | beyondFormat
  deriving DecidableEq, Repr

/-- OPN words (R102). -/
def decodeOpn (b : BitVec 4) : Except Reject Instr :=
  if b = 0 then .ok .bootSelect
  else if b = 1 then .ok .tmInit
  else if b = 2 then .ok .tmProbe
  else if b = 3 then .ok .tmDetectEnd
  else if b = 4 then .ok .tmCommit
  else if b = 5 then .ok .srInit
  else if b = 6 then .ok .srPollPop
  else if b = 7 then .ok .srTrig
  else if b = 8 then .ok .snapWr
  else if b = 9 then .error .phaseDispatch
  else .error .reservedOpn

/-- TMP words: `l` in bit 2, `m` in bits 1:0 (R97, R98). -/
def decodeTmp (b : BitVec 4) : Except Reject Instr :=
  if b = 0b101 then .ok .tmPhS1
  else if b = 0b010 then .ok .tmPhS2
  else if b = 0b100 then .ok .tmPhHi
  else if b = 0b000 then .ok .tmPhLo
  else if b = 0b111 then .ok .tmPhSf
  else if b.getLsbD 3 then .error .beyondFormat
  else .error .reservedTmp

/-- SRS words: `L C S` (R99). -/
def decodeSrs (b : BitVec 4) : Except Reject Instr :=
  if b = 0b000 then .ok .srSeqWait
  else if b = 0b100 then .ok .srSeqLatch
  else if b = 0b011 then .ok .srSeqShift
  else if b.getLsbD 3 then .error .beyondFormat
  else .error .reservedSrs

/-- BEW words: `e d s` (R95). -/
def decodeBew (b : BitVec 4) : Except Reject Instr :=
  if b.getLsbD 3 then .error .beyondFormat
  else if b.getLsbD 2 then .ok (.beIdle (b.getLsbD 1) (b.getLsbD 0))
  else if b.getLsbD 1 then .ok (.beEdge (b.getLsbD 0))
  else .ok (.beHold (b.getLsbD 0))

/-- BOW words: `pp` in bits 2:1, `s` in bit 0 (R96). -/
def decodeBow (b : BitVec 4) : Except Reject Instr :=
  if b.getLsbD 3 then .error .beyondFormat
  else if b.getLsbD 2 then .ok (.beOutNone (b.extractLsb' 1 2) (b.getLsbD 0))
  else if b.getLsbD 0 then .ok (.beOutDir (b.extractLsb' 1 2))
  else .ok (.beOutBtn (b.extractLsb' 1 2))

/-- The operation a decode word selects (R109). -/
def decode (w : DecodeWord) : Except Reject Instr :=
  match w.fmt with
  | .opn => decodeOpn w.bits
  | .tmp => decodeTmp w.bits
  | .srs => decodeSrs w.bits
  | .bew => decodeBew w.bits
  | .bow => decodeBow w.bits

/-- Three bits `x y z`, `x` the most significant, below a zero bit. -/
def word3 (x y z : Bool) : BitVec 4 :=
  BitVec.ofBool false ++ BitVec.ofBool x ++ BitVec.ofBool y ++ BitVec.ofBool z

/-- The decode word of an operation (R95, R96, R97, R99, R102). -/
def encode : Instr → DecodeWord
  | .bootSelect => ⟨.opn, 0b0000⟩
  | .tmInit => ⟨.opn, 0b0001⟩
  | .tmProbe => ⟨.opn, 0b0010⟩
  | .tmDetectEnd => ⟨.opn, 0b0011⟩
  | .tmCommit => ⟨.opn, 0b0100⟩
  | .srInit => ⟨.opn, 0b0101⟩
  | .srPollPop => ⟨.opn, 0b0110⟩
  | .srTrig => ⟨.opn, 0b0111⟩
  | .snapWr => ⟨.opn, 0b1000⟩
  | .tmPhS1 => ⟨.tmp, 0b101⟩
  | .tmPhS2 => ⟨.tmp, 0b010⟩
  | .tmPhHi => ⟨.tmp, 0b100⟩
  | .tmPhLo => ⟨.tmp, 0b000⟩
  | .tmPhSf => ⟨.tmp, 0b111⟩
  | .srSeqWait => ⟨.srs, 0b000⟩
  | .srSeqLatch => ⟨.srs, 0b100⟩
  | .srSeqShift => ⟨.srs, 0b011⟩
  | .beIdle d s => ⟨.bew, word3 true d s⟩
  | .beEdge s => ⟨.bew, word3 false true s⟩
  | .beHold s => ⟨.bew, word3 false false s⟩
  | .beOutDir pp => ⟨.bow, word3 (pp.getLsbD 1) (pp.getLsbD 0) true⟩
  | .beOutBtn pp => ⟨.bow, word3 (pp.getLsbD 1) (pp.getLsbD 0) false⟩
  | .beOutNone pp s => ⟨.bow, word3 (pp.getLsbD 1) (pp.getLsbD 0) s⟩

/-- The decode word numbered `w`: bits 3:0 are the word's bits and bits 7:4 its format, 0 for OPN. A word of the operation
table by itself has no format bits and is read as OPN (DESIGN CHOICE, log 4). -/
def DecodeWord.ofTable (nbits w : Nat) : Option DecodeWord :=
  let v := w % 2 ^ nbits
  match v / 16 with
  | 0 => some ⟨.opn, BitVec.ofNat 4 v⟩
  | 1 => some ⟨.tmp, BitVec.ofNat 4 v⟩
  | 2 => some ⟨.srs, BitVec.ofNat 4 v⟩
  | 3 => some ⟨.bew, BitVec.ofNat 4 v⟩
  | 4 => some ⟨.bow, BitVec.ofNat 4 v⟩
  | _ => none

/-- The operation the decoder reads from a word numbered as the operation table numbers it. -/
def decodeTableWord (nbits w : Nat) : Option Instr :=
  (DecodeWord.ofTable nbits w).bind fun d => (decode d).toOption

end Sys2Proof
end

