-- ==== Sys2Proof/Machine/Fetch.lean ====
section
/-! DEFINITION. How each agent forms its decode word (R95, R96, R97, R100, R102), one step of the machine over a given meaning
of operations (R13, R224), and how a state is made whose next step runs a given word. -/

namespace Sys2Proof.Machine

/-! ### The decode words -/

/-- The slot word of the sequencer (R100). -/
def srsWord (s : State) : DecodeWord :=
  match s.srPc with
  | .wait => ⟨.srs, 0b000⟩
  | .latch => ⟨.srs, 0b100⟩
  | .shift _ => ⟨.srs, 0b011⟩

/-- OPN in a position that runs the phase sequence: 1001 while a phase is next, `done` after the last, and a reserved number
where `tm_pc` is out of its range (R102, R28). -/
def phaseOpn (s : State) (done : BitVec 4) : BitVec 4 :=
  if s.tmPc < nPh s.params then 0b1001 else if s.tmPc = nPh s.params then done else 0b1111

/-- The operation number of the reader context (R102). -/
def opnBits (s : State) : BitVec 4 :=
  match s.rdrPc with
  | .select => 0b0000
  | .tmInit => 0b0001
  | .tmProbe => 0b0010
  | .tmDetect => phaseOpn s 0b0011
  | .tmLoop => phaseOpn s 0b0100
  | .srInit => 0b0101
  | .srLoop =>
    match s.rdrSub with
    | .chk => 0b0110
    | .trig => 0b0111
    | .wrA => 0b1000
    | .wrB => 0b1000

/-- The entry `PH[i]`; the reserved word 110 where the table has none (R97, R98). -/
def phaseEntry (c : Params) (i : Nat) : BitVec 4 :=
  (phaseTable c.tmUnlockPairs).getD i 0b110

/-- The decode word of a reader step: OPN, or the phase-table entry that OPN 1001 dispatches to (R102). -/
def rdrWord (s : State) : DecodeWord :=
  if opnBits s = 0b1001 then ⟨.tmp, phaseEntry s.params s.tmPc⟩ else ⟨.opn, opnBits s⟩

/-- BEW, from the sampled `en` and `sel` and the recorded level (R95). -/
def bewWord (s : State) : DecodeWord :=
  ⟨.bew, word3 s.lines.en (s.lines.sel != s.prevSel) s.lines.sel⟩

/-- BOW, from the updated port and the sampled `sel`; a port above 3 has the bits of 3 (R96, R110). -/
def bowWord (s : State) : DecodeWord :=
  let pp := BitVec.ofNat 2 (min s.port 3)
  ⟨.bow, word3 (pp.getLsbD 1) (pp.getLsbD 0) s.lines.sel⟩

/-! ### One step of each agent -/

/-- Run the operation a decode word selects; a reserved word is refused (R98, R99, R102, R110). -/
def runWord (run : Instr → State → Result) (w : DecodeWord) (s : State) : Result :=
  match decode w with
  | .ok i => run i s
  | .error _ => .refused .reservedDecodeWord

/-- A SEQ step: no effect while `sr_ok` = 0 (R34, R112). -/
def runSeq (run : Instr → State → Result) (s : State) : Result :=
  if s.srOk then runWord run (srsWord s) s else .next s

/-- An RDR step (R102). -/
def runRdr (run : Instr → State → Result) (s : State) : Result :=
  runWord run (rdrWord s) s

/-- The output operation that follows a state-update operation in the same step: BE.OUT.NONE after BE.IDLE, whatever BOW would
say, else the operation BOW selects (R223, R224). -/
def runOut (run : Instr → State → Result) (update : Instr) (s : State) : Result :=
  match update with
  | .beIdle _ _ => run (.beOutNone 0b10#2 s.lines.sel) s
  | _ => runWord run (bowWord s) s

/-- A BE step: one BEW operation and one BOW operation, atomically (R224). -/
def runBe (run : Instr → State → Result) (s : State) : Result :=
  match decode (bewWord s) with
  | .ok i => andThen (run i s) (runOut run i)
  | .error _ => .refused .reservedDecodeWord

/-- The step of the chosen agent (R13). -/
def runChoice (run : Instr → State → Result) (c : Choice) (s : State) : Result :=
  match c with
  | .env l => .next (s.setLines l)
  | .seq => runSeq run s
  | .rdr => runRdr run s
  | .be => runBe run s

/-- One step of the machine: take the next choice and run it (R13). -/
def runStep (run : Instr → State → Result) (s : State) : Result :=
  runChoice run s.takeChoice.1 s.takeChoice.2

/-! ### Making a given word the next to run (log 5) -/

/-- A state whose next choice is the given agent. -/
def State.chooseNext (s : State) (c : Choice) : State :=
  { s with pending := c :: s.pending }

/-- The reader position at which OPN is the given number; 1001 dispatches to the first phase (R102). -/
def State.placeOpn (s : State) (n : Nat) : State :=
  match n with
  | 0 => { s with rdrPc := .select }
  | 1 => { s with rdrPc := .tmInit }
  | 2 => { s with rdrPc := .tmProbe }
  | 3 => { s with rdrPc := .tmDetect, tmPc := nPh s.params }
  | 4 => { s with rdrPc := .tmLoop, tmPc := nPh s.params }
  | 5 => { s with rdrPc := .srInit }
  | 6 => { s with rdrPc := .srLoop, rdrSub := .chk }
  | 7 => { s with rdrPc := .srLoop, rdrSub := .trig }
  | 8 => { s with rdrPc := .srLoop, rdrSub := .wrA }
  | 9 => { s with rdrPc := .tmLoop, tmPc := 0 }
  | _ => s

/-- The poll position whose phase-table entry is the given word: the first such index (R97). -/
def State.placeTmp (s : State) (b : BitVec 4) : State :=
  { s with rdrPc := .tmLoop, tmPc := (phaseTable s.params.tmUnlockPairs).idxOf b }

/-- The sequencer position whose slot word is the given word (R100). -/
def State.placeSrs (s : State) (n : Nat) : State :=
  match n with
  | 0 => { s with srOk := true, srPc := .wait }
  | 4 => { s with srOk := true, srPc := .latch }
  | 3 => { s with srOk := true, srPc := .shift 0 }
  | _ => s

/-- The sampled levels and the recorded level that form the given BEW (R95). -/
def State.placeBew (s : State) (b : BitVec 4) : State :=
  { s with
    lines := { s.lines with en := b.getLsbD 2, sel := b.getLsbD 0 }
    prevSel := (b.getLsbD 0) != (b.getLsbD 1) }

/-- The levels and the counter with which BE.HOLD is followed by the given BOW (R96). -/
def State.placeBow (s : State) (b : BitVec 4) : State :=
  { s with
    lines := { s.lines with en := false, sel := b.getLsbD 0 }
    prevSel := b.getLsbD 0
    cnt := 2 * (b.extractLsb' 1 2).toNat
    port := (b.extractLsb' 1 2).toNat }

/-- A state whose next step runs the given decode word. -/
def State.placeWord (s : State) (w : DecodeWord) : State :=
  match w.fmt with
  | .opn => (s.placeOpn w.bits.toNat).chooseNext .rdr
  | .tmp => (s.placeTmp w.bits).chooseNext .rdr
  | .srs => (s.placeSrs w.bits.toNat).chooseNext .seq
  | .bew => (s.placeBew w.bits).chooseNext .be
  | .bow => (s.placeBow w.bits).chooseNext .be

/-- A state whose next step runs the word numbered as the operation table numbers it; unchanged where it is no word. -/
def State.placeTableWord (s : State) (nbits w : Nat) : State :=
  match DecodeWord.ofTable nbits w with
  | some d => s.placeWord d
  | none => s

end Sys2Proof.Machine
end

