-- ==== Sys2Proof/Machine/Step.lean ====
section
/-! DEFINITION. The step of the machine: one step of one agent (R13). -/

namespace Sys2Proof.Machine

/-- One step: the next choice of the schedule, run with `exec` as the meaning of operations. -/
def step (s : State) : Host.Outcome State Fault Refusal :=
  runStep exec s

/-- The state with a table word placed where the next step forms it: the chosen agent is next, and the positions, levels or
recorded level that select the word are set (log 5). -/
def State.withFetchWord (s : State) (nbits w : Nat) : State :=
  s.placeTableWord nbits w

end Sys2Proof.Machine
end

