-- ==== Sys2Proof/Machine/Observe.lean ====
section
/-! DEFINITION. What an operation or a step shows beside its next state: the condition it notes, the levels it drives on the
output lines in order, and the nominal length of its wait. None of it is state, and no meaning reads it. -/

namespace Sys2Proof.Machine

/-- The condition an operation notes when it is executed (R250 to R253). That SNAP.WR notes `ControllerAbsent`, and from which
samples, is a DESIGN CHOICE (log 23), safe: R250's table lists it, R131 says that it raises none, and R252 lets a model define the
condition; TM.COMMIT may note it (R179). -/
def raised (i : Instr) (s : State) : Option Condition :=
  match i with
  | .srInit => if s.params.seqAvailable then none else some .resourceUnavailable
  | .tmCommit => if latchesIdle s then some .controllerAbsent else none
  | .snapWr =>
    if snapValue s = 0 ∧ deint s.rdW (snapTarget s) = BitVec.allOnes srFrameClocks then some .controllerAbsent else none
  | .beEdge _ => if portOf (countEdge s.params s.cnt) = nPorts then some .protocolDesync else none
  | .srSeqWait | .srSeqLatch | .srSeqShift | .srPollPop | .srTrig | .tmInit | .tmPhS1 | .tmPhS2 | .tmPhHi | .tmPhLo
  | .tmPhSf | .tmDetectEnd | .tmProbe | .bootSelect | .beIdle _ _ | .beHold _ | .beOutDir _ | .beOutBtn _
  | .beOutNone _ _ => none

/-- The clock pulse of one slot (R144). -/
def clockPulse (c : Params) : List Drive :=
  [.srClk !c.srClkIdle, .srClk c.srClkIdle]

/-- The snapshot read of an output operation, as the level it drives (R221, R222). -/
def driveHalf (o : Option Snapshot) (half : Snapshot → Nibble) : List Drive :=
  match o with
  | some snap => [.out (half snap)]
  | none => []

/-- The levels an operation drives on the output lines, in order (R241; the waveforms of R143, R144, R150). -/
def drives (i : Instr) (s : State) : List Drive :=
  match i with
  | .srSeqLatch => [.srLatch s.params.srLatchActive, .srLatch !s.params.srLatchActive]
  | .srSeqShift =>
    match s.srPc with
    | .shift k => if k = lastSlot ∧ s.srRxValid = true then [] else clockPulse s.params
    | .wait => []
    | .latch => []
  | .srInit =>
    if s.params.seqAvailable then [.srClk s.params.srClkIdle, .srLatch !s.params.srLatchActive] else []
  | .tmInit => [.tmSel s.params.tmSelInit, .tmPwr s.params.tmPwrActive]
  | .tmPhS1 | .tmPhHi | .tmPhSf => [.tmSel true]
  | .tmPhS2 | .tmPhLo => [.tmSel false]
  | .beOutDir pp => driveHalf (memRead pp.toNat s) dirHalf
  | .beOutBtn pp => driveHalf (memRead pp.toNat s) btnHalf
  | .beOutNone _ _ => [.out noData]
  | .snapWr | .srSeqWait | .srPollPop | .srTrig | .tmCommit | .tmDetectEnd | .tmProbe | .bootSelect | .beIdle _ _
  | .beEdge _ | .beHold _ => []

/-- The levels driven by the operation a decode word selects. -/
def wordDrives (w : DecodeWord) (s : State) : List Drive :=
  match decode w with
  | .ok i => drives i s
  | .error _ => []

/-- The levels driven by the output operation that follows a state-update operation (R223, R224). -/
def outDrives (update : Instr) (s : State) : List Drive :=
  match update with
  | .beIdle _ _ => drives (.beOutNone 0b10#2 s.lines.sel) s
  | _ => wordDrives (bowWord s) s

/-- The levels a step of the chosen agent drives on the output lines, in order (R241). -/
def stepDrives (c : Choice) (s : State) : List Drive :=
  match c with
  | .env _ => []
  | .seq => if s.srOk then wordDrives (srsWord s) s else []
  | .rdr => wordDrives (rdrWord s) s
  | .be =>
    match decode (bewWord s) with
    | .ok i =>
      match exec i s with
      | .next t => drives i s ++ outDrives i t
      | .fault _ => []
      | .refused _ => []
    | .error _ => []

/-- The nominal length in nanoseconds of an operation's `wait`, or of its clock slot (R143, R172, R303). The model is untimed;
the figures are approximate and nothing rests on them (R9). -/
def waitNs (c : Params) : Instr → Nat
  | .srSeqLatch => c.srLatchClocks * c.srClkNs
  | .srSeqShift => c.srClkNs
  | .srSeqWait => c.srClkNs
  | .tmPhS1 | .tmPhS2 | .tmPhHi | .tmPhLo | .tmPhSf => c.settleNs
  | .snapWr | .srInit | .srPollPop | .srTrig | .tmInit | .tmCommit | .tmDetectEnd | .tmProbe | .bootSelect | .beIdle _ _
  | .beEdge _ | .beHold _ | .beOutDir _ | .beOutBtn _ | .beOutNone _ _ => 0

end Sys2Proof.Machine
end

