-- ==== Sys2Proof/Safety.lean ====
section
/-! DEFINITION. The terms claims are stated in: the invariant of every reachable state (R46), the owners of the registers (R42),
the levels of the bus (R224), and the stimulus scripts (R112, R113). -/

namespace Sys2Proof.Safety

open Sys2Proof.Machine

/-- How many of the four tokens of the trigger and frame handshake a state holds (R46 c). -/
def tokens (s : State) : Nat :=
  s.srTrig.toNat + (decide (s.srPc ≠ .wait)).toNat + s.srRxValid.toNat + (decide (s.rdrSub = .trig)).toNat

/-- The invariant of every reachable state: R46 (a) to (d) and (f), and what makes it inductive. -/
structure Inv (s : State) : Prop where
  /-- R46 (a). -/
  port_is_half : s.port = s.cnt / 2
  /-- R46 (a). -/
  cnt_bounded : s.cnt ≤ s.params.cntSat
  /-- The canonical form of the store. -/
  mem_wf : s.mem.wf = true
  /-- R46 (b). -/
  upper_bits : ∀ p, (s.mem.read p).toNat < 4096
  /-- R46 (c). -/
  one_token : tokens s ≤ 1
  /-- R46 (d). -/
  stalled : s.srOk = false → s.srPc = .wait ∧ s.srTrig = false ∧ s.srRxValid = false
  /-- R28. -/
  phase_range : s.tmPc ≤ nPh s.params
  /-- R238: the phase index is 0 outside the two phase loops. -/
  phase_zero : s.rdrPc ≠ .tmDetect → s.rdrPc ≠ .tmLoop → s.tmPc = 0
  /-- R34, R200: the sequencer is acquired by SR.INIT only. -/
  ok_in_loop : s.srOk = true → s.rdrPc = .srLoop
  /-- R238: SR.POLL is in progress only where a frame could exist. -/
  poll_in_loop : s.rdrSub ≠ .chk → s.srOk = true
  /-- R36, R200: the positions before the selection. -/
  boot_positions : s.mode = .boot ↔ s.rdrPc = .tmInit ∨ s.rdrPc = .tmProbe ∨ s.rdrPc = .select
  /-- R36, R200: the positions of mode `TM`. -/
  tm_positions : s.mode = .tm ↔ s.rdrPc = .tmDetect ∨ s.rdrPc = .tmLoop
  /-- R46 (f), R130: `SNAP[1]` is written in mode `SR` only. -/
  second_idle : s.mode ≠ .sr → s.mem.read 1 = 0
  /-- R130, R204: until a reader stores, both snapshots keep 0x000. -/
  unwritten : s.rdrPc ≠ .tmLoop → s.srOk = false → s.mem = []

/-- The agents that perform operations (R13, R109). -/
inductive Agent where
  | seq | rdr | be
  deriving DecidableEq, Repr

/-- The agent of an operation (R109). -/
def agentOf : Instr → Agent
  | .srSeqWait | .srSeqLatch | .srSeqShift => .seq
  | .beIdle _ _ | .beEdge _ | .beHold _ | .beOutDir _ | .beOutBtn _ | .beOutNone _ _ => .be
  | .snapWr | .srInit | .srPollPop | .srTrig | .tmInit | .tmPhS1 | .tmPhS2 | .tmPhHi | .tmPhLo | .tmPhSf | .tmCommit
  | .tmDetectEnd | .tmProbe | .bootSelect => .rdr

/-- The agent a choice lets step; none for ENV (R13). -/
def agentOfChoice : Choice → Option Agent
  | .env _ => none
  | .seq => some .seq
  | .rdr => some .rdr
  | .be => some .be

/-- Weak fairness (R13): an endless schedule in which each of SEQ, RDR and BE steps infinitely often. Liveness claims name it
as a hypothesis (92_eei_decisions.md D32); no other claim does (log 15). -/
def WeaklyFair (σ : Nat → Choice) : Prop :=
  ∀ (a : Agent) (n : Nat), ∃ m, n ≤ m ∧ agentOfChoice (σ m) = some a

/-- The state after a step on a given choice; a step that stops leaves the state. -/
def stepOn (c : Choice) (s : State) : State :=
  match step { s with pending := [c] } with
  | .next t => t
  | .fault _ => s
  | .refused _ => s

/-- The states of the run from s that follows an endless schedule (R13). -/
def follow (σ : Nat → Choice) (s : State) : Nat → State
  | 0 => s
  | n + 1 => stepOn (σ n) (follow σ s n)

/-- The level of output line i by the function OUT of R224, line by line as R93 lists them. -/
def busLine (e : Bool) (port : Nat) (sel : Bool) (m : Memory) (i : Nat) : Bool :=
  e || decide (2 ≤ port) || !(m.read port).getLsbD (if sel then i else i + 4)

/-- `HOST e s`: ENV sets the host lines, then one BE step (R113); the controllers' lines are those of `l`. -/
def host (l : Lines) (e s : Bool) : List Choice :=
  [.env { l with en := e, sel := s }, .be]

/-- A window of the host: enable low, select at each of the given levels in turn (R228). -/
def hostWindow (l : Lines) (levels : List Bool) : List Choice :=
  levels.flatMap (host l false)

/-- The choices of `SEQ.FRAME`: a SEQ step that leaves `WAIT`, a SEQ step of the latch slot, then for each sample ENV presents
it and SEQ takes a slot (R113). -/
def seqFrame (l : Lines) (samples : List SrSample) : List Choice :=
  .seq :: .seq :: samples.flatMap fun x => [.env { l with srDin := x }, .seq]

/-- The choices of `TM.POLL v1 v2 vf` for P unlock pairs, TM.COMMIT last (R113). -/
def tmPoll (l : Lines) (p : Nat) (v1 v2 vf : TmSample) : List Choice :=
  [.env { l with tmIn := v1 }, .rdr, .env { l with tmIn := v2 }, .rdr] ++ List.replicate (2 * p) .rdr ++
    [.env { l with tmIn := vf }, .rdr, .rdr]

/-- The nominal length of a phase-table entry (R97, R303). -/
def phaseNs (c : Params) (e : BitVec 4) : Nat :=
  match decode ⟨.tmp, e⟩ with
  | .ok i => waitNs c i
  | .error _ => 0

/-- How many SEQ steps are left until the frame in progress, or the triggered one, is delivered (R150). -/
def slotsLeft (s : State) : Nat :=
  match s.srPc with
  | .wait => if s.srTrig then srFrameClocks + 2 else 0
  | .latch => srFrameClocks + 1
  | .shift k => srFrameClocks - k.val

end Sys2Proof.Safety
end

