-- ==== Sys2Proof/Certificates/Slice0/Obligations.lean ====
section
/-! DEFINITION. The statements for the provers. -/

open Sys2Proof Sys2Proof.Machine Sys2Proof.Safety

/-! ### Encoding and decoding -/

/-- Decode and encode agree on every well-formed operation, with every operand (R95, R96, R97, R99, R102). -/
def Obligations.DecodeOfEncodeGivesBackTheOperation : Prop :=
  ∀ i : Instr, WellFormed i = true → decode (encode i) = .ok i

/-- Every word that decodes is the encoding of a well-formed operation, so a word has one meaning (R95, R96, R97, R99, R102). -/
def Obligations.EncodeOfDecodeGivesBackTheWord : Prop :=
  ∀ (w : DecodeWord) (i : Instr), decode w = .ok i → WellFormed i = true ∧ encode i = w

/-- R98: exactly three TMP patterns are reserved, and no table the rules build holds one. -/
def Obligations.ReservedPhaseWordsStandInNoTable : Prop :=
  (∀ b : BitVec 4, b.toNat < 8 →
    (decode ⟨.tmp, b⟩ = .error .reservedTmp ↔ b = 0b001#4 ∨ b = 0b011#4 ∨ b = 0b110#4)) ∧
  (∀ (p : Nat) (e : BitVec 4), e ∈ phaseTable p → ∃ i, decode ⟨.tmp, e⟩ = .ok i)

/-- R97: the TMP patterns, and the phase table for any number P of unlock pairs. -/
def Obligations.PhaseTableHasTheSpecifiedShape : Prop :=
  (decode ⟨.tmp, 0b101#4⟩ = .ok .tmPhS1 ∧ decode ⟨.tmp, 0b010#4⟩ = .ok .tmPhS2 ∧
    decode ⟨.tmp, 0b100#4⟩ = .ok .tmPhHi ∧ decode ⟨.tmp, 0b000#4⟩ = .ok .tmPhLo ∧
    decode ⟨.tmp, 0b111#4⟩ = .ok .tmPhSf) ∧
  ∀ p : Nat,
    (phaseTable p).length = 2 * p + 3 ∧
    (phaseTable p)[0]? = some 0b101#4 ∧
    (phaseTable p)[1]? = some 0b010#4 ∧
    (∀ j, j < p → (phaseTable p)[2 + 2 * j]? = some 0b100#4 ∧ (phaseTable p)[3 + 2 * j]? = some 0b000#4) ∧
    (phaseTable p)[2 + 2 * p]? = some 0b111#4

/-- A few words written out from R95, R96, R97, R99 and R102 decode to the operation they stand for. -/
def Obligations.WrittenWordsDecodeToTheirOperation : Prop :=
  decode ⟨.opn, 0b1000#4⟩ = .ok .snapWr ∧ decode ⟨.opn, 0b0111#4⟩ = .ok .srTrig ∧
  decode ⟨.opn, 0b0011#4⟩ = .ok .tmDetectEnd ∧ decode ⟨.opn, 0b1010#4⟩ = .error .reservedOpn ∧
  decode ⟨.srs, 0b011#4⟩ = .ok .srSeqShift ∧ decode ⟨.srs, 0b001#4⟩ = .error .reservedSrs ∧
  decode ⟨.bew, 0b011#4⟩ = .ok (.beEdge true) ∧ decode ⟨.bew, 0b110#4⟩ = .ok (.beIdle true false) ∧
  decode ⟨.bow, 0b011#4⟩ = .ok (.beOutDir 1) ∧ decode ⟨.bow, 0b100#4⟩ = .ok (.beOutNone 2 false)

/-! ### The step -/

/-- A step of ENV sets the input lines; a step of SEQ or RDR runs the operation its decode word selects; SEQ takes no step
while `sr_ok` = 0 (R13, R34, R41). -/
def Obligations.StepRunsTheDecodedOperation : Prop :=
  ∀ (s : State) (cs : List Choice),
    (∀ l, s.pending = .env l :: cs → step s = .next { s with pending := cs, lines := l }) ∧
    (∀ i, s.pending = .rdr :: cs → decode (rdrWord { s with pending := cs }) = .ok i →
      step s = exec i { s with pending := cs }) ∧
    (∀ i, s.pending = .seq :: cs → s.srOk = true → decode (srsWord { s with pending := cs }) = .ok i →
      step s = exec i { s with pending := cs }) ∧
    (s.pending = .seq :: cs → s.srOk = false → step s = .next { s with pending := cs })

/-- A BE step runs the operation of BEW and then, in the same step, BE.OUT.NONE after BE.IDLE, else the operation of BOW formed
from the updated port (R224). -/
def Obligations.BusStepRunsTwoDecodedOperations : Prop :=
  ∀ (s t : State) (cs : List Choice) (i : Instr), s.pending = .be :: cs →
    decode (bewWord { s with pending := cs }) = .ok i → exec i { s with pending := cs } = .next t →
    (s.lines.en = true → ∃ pp e, step s = exec (.beOutNone pp e) t) ∧
    (s.lines.en = false → ∀ j, decode (bowWord t) = .ok j → step s = exec j t)

/-- Where no choice is pending, the step takes a free value as its choice (R13; the model's form of the schedule, log 2). -/
def Obligations.FreeScheduleChoosesTheAgent : Prop :=
  ∀ s : State, s.pending = [] →
    step s = step { s with pending := [Config.choice s.draws], draws := s.draws + 1 }

/-- R100: the slot word is a function of `sr_pc`. -/
def Obligations.SlotWordFollowsTheSequencerPosition : Prop :=
  ∀ s : State,
    (s.srPc = .wait → srsWord s = ⟨.srs, 0b000#4⟩) ∧
    (s.srPc = .latch → srsWord s = ⟨.srs, 0b100#4⟩) ∧
    (∀ k, s.srPc = .shift k → srsWord s = ⟨.srs, 0b011#4⟩)

/-- R102: OPN is a pure function of `rdr_pc`, `rdr_sub` and `tm_pc`; 10 to 15 are never selected while `tm_pc` is in its range,
and OPN 1001 dispatches to an operation of the phase table. -/
def Obligations.OperationNumberFollowsTheReaderPosition : Prop :=
  ∀ s : State, s.tmPc ≤ nPh s.params →
    opnBits s = (match s.rdrPc with
      | .select => 0b0000#4
      | .tmInit => 0b0001#4
      | .tmProbe => 0b0010#4
      | .tmDetect => if s.tmPc = nPh s.params then 0b0011#4 else 0b1001#4
      | .tmLoop => if s.tmPc = nPh s.params then 0b0100#4 else 0b1001#4
      | .srInit => 0b0101#4
      | .srLoop => if s.rdrSub = .chk then 0b0110#4 else if s.rdrSub = .trig then 0b0111#4 else 0b1000#4) ∧
    (opnBits s).toNat ≤ 9 ∧
    (opnBits s = 0b1001#4 → ∃ e i, (phaseTable s.params.tmUnlockPairs)[s.tmPc]? = some e ∧
      rdrWord s = ⟨.tmp, e⟩ ∧ decode ⟨.tmp, e⟩ = .ok i) ∧
    (opnBits s ≠ 0b1001#4 → rdrWord s = ⟨.opn, opnBits s⟩)

/-! ### The sequencer -/

/-- R142: SR.SEQ.WAIT takes the trigger, or changes nothing. -/
def Obligations.WaitTakesTheTriggerOrStalls : Prop :=
  ∀ s : State, exec .srSeqWait s =
    .next (if s.srTrig = true then { s with srTrig := false, srPc := .latch } else s)

/-- R143: SR.SEQ.LATCH pulses the latch line once and goes to the first slot. -/
def Obligations.LatchSlotPulsesTheLatchLine : Prop :=
  ∀ s : State,
    exec .srSeqLatch s = .next { s with srLatch := !s.params.srLatchActive, srPc := .shift 0 } ∧
    drives .srSeqLatch s = [.srLatch s.params.srLatchActive, .srLatch !s.params.srLatchActive]

/-- R144: a slot shifts the sample in from the top and pulses the clock once; the sixteenth delivers the word. -/
def Obligations.ShiftSlotShiftsInTheSample : Prop :=
  ∀ (s : State) (k : Fin 16), s.srPc = .shift k → (k = 15 → s.srRxValid = false) →
    drives .srSeqShift s = [.srClk !s.params.srClkIdle, .srClk s.params.srClkIdle] ∧
    ∃ t, exec .srSeqShift s = .next t ∧
      (∀ j, j < 30 → t.srIsr.getLsbD j = s.srIsr.getLsbD (j + 2)) ∧
      (∀ j, j < 2 → t.srIsr.getLsbD (30 + j) = s.lines.srDin.getLsbD j) ∧
      t = { s with
        srIsr := t.srIsr
        srClk := s.params.srClkIdle
        srRxWord := if k = 15 then t.srIsr else s.srRxWord
        srRxValid := if k = 15 then true else s.srRxValid
        srPc := if k = 15 then .wait else .shift (k + 1) }

/-- A delivery into a full receive queue stalls: no change and no pulse (the model's reading of R144's unreachable case,
log 12). -/
def Obligations.FullReceiveQueueStallsTheSequencer : Prop :=
  ∀ s : State, s.srPc = .shift 15 → s.srRxValid = true →
    exec .srSeqShift s = .next s ∧ drives .srSeqShift s = []

/-- SR.SEQ.SHIFT outside `SHIFT(k)` stops, by name (the model's, log 13). -/
def Obligations.ShiftOutsideTheFrameStops : Prop :=
  ∀ s : State, (s.srPc = .wait ∨ s.srPc = .latch) → exec .srSeqShift s = .fault .shiftOutsideFrame

/-- R150, R64 (a), R91: eighteen SEQ steps from a pending trigger deliver one word; bits 2k and 2k + 1 of it are the sample of
slot k, and nothing of the old content is left. -/
def Obligations.FrameDeliversTheSixteenSamples : Prop :=
  ∀ (s : State) (l : Lines) (samples : List (BitVec 2)) (rest : List Choice),
    samples.length = 16 → s.srOk = true → s.srPc = .wait → s.srTrig = true → s.srRxValid = false →
    s.pending = seqFrame l samples ++ rest →
    ∃ t, core.run 34 s = .next t ∧
      (∀ k, k < 16 → ∀ c, c < 2 → t.srRxWord.getLsbD (2 * k + c) = (samples.getD k 0).getLsbD c) ∧
      t = { s with
        pending := rest
        lines := { l with srDin := samples.getD 15 0 }
        srTrig := false
        srRxValid := true
        srLatch := !s.params.srLatchActive
        srClk := s.params.srClkIdle
        srIsr := t.srIsr
        srRxWord := t.srIsr }

/-- R150, R301: while a frame is due, each SEQ step brings it one slot nearer, steps of the other agents do not put it off, and
the last slot delivers it. Under the weak fairness of R13, named as a hypothesis (D32), every due frame is delivered, and from a
state that holds one token of the handshake the chain of triggers and frames never stops: after any point of the run SR.POLL
consumes a frame again. -/
def Obligations.EachSlotBringsTheFrameNearer : Prop :=
  (∀ (s : State) (c : Choice) (cs : List Choice), Inv s → s.pending = c :: cs → s.srOk = true → 0 < slotsLeft s →
    ∃ t, step s = .next t ∧ t.srOk = true ∧
      (c = .seq → slotsLeft t + 1 = slotsLeft s ∧ (slotsLeft s = 1 → t.srRxValid = true ∧ t.srRxWord = t.srIsr)) ∧
      (c ≠ .seq → slotsLeft t = slotsLeft s)) ∧
  (∀ (s : State) (σ : Nat → Choice), Inv s → WeaklyFair σ → s.srOk = true → 0 < slotsLeft s →
    ∃ n, (follow σ s n).srRxValid = true ∧ (follow σ s n).srRxWord = (follow σ s n).srIsr) ∧
  (∀ (s : State) (σ : Nat → Choice), Inv s → WeaklyFair σ → s.srOk = true → tokens s = 1 →
    ∀ n, ∃ m, n ≤ m ∧ (follow σ s m).rdrSub = .trig)

/-! ### The reader context, shift-register side -/

/-- R145: SR.INIT programs the sequencer and writes the first trigger, or records the failure and notes the condition; it
enters the poll loop either way. -/
def Obligations.InitialisationProgramsTheSequencer : Prop :=
  ∀ s : State,
    exec .srInit s = .next (
      if s.params.seqAvailable = true then
        { s with
          srOk := true
          srClk := s.params.srClkIdle
          srLatch := !s.params.srLatchActive
          srPc := .wait
          srRxValid := false
          srTrig := true
          rdrPc := .srLoop
          rdrSub := .chk }
      else { s with srOk := false, rdrPc := .srLoop, rdrSub := .chk }) ∧
    raised .srInit s = (if s.params.seqAvailable = true then none else some .resourceUnavailable)

/-- R146: SR.POLL.POP takes the frame word, or changes nothing. -/
def Obligations.PollTakesTheFrameOrChangesNothing : Prop :=
  ∀ s : State, exec .srPollPop s = .next (
    if s.srRxValid = true then { s with rdW := s.srRxWord, srRxValid := false, rdrSub := .trig } else s)

/-- R147: SR.TRIG writes the trigger and decodes the word: a field of controller c + 1 is pressed where bit
2 x SR_POS(field) + c of the word is low. `rd_first` is a draw, so nothing is said of it, nor of `draws`, the model's own
counter (log 3). -/
def Obligations.TriggerDecodesBothControllers : Prop :=
  ∀ s : State, ∃ t, exec .srTrig s = .next t ∧
    (∀ f, t.rdC0.getLsbD (fieldBit f) = !s.rdW.getLsbD (2 * srPosOf s.params f)) ∧
    (∀ f, t.rdC1.getLsbD (fieldBit f) = !s.rdW.getLsbD (2 * srPosOf s.params f + 1)) ∧
    t = { s with
      srTrig := true
      rdC0 := t.rdC0
      rdC1 := t.rdC1
      rdFirst := t.rdFirst
      rdrSub := .wrA
      draws := t.draws }

/-- R131: SNAP.WR stores one decoded snapshot, zero-extended, in the word `rd_first` names, or in the other one on the second
store; every other word reads as before. -/
def Obligations.SnapWriteStoresOneSnapshot : Prop :=
  ∀ s : State, ∃ t, exec .snapWr s = .next t ∧
    t = { s with mem := t.mem, rdrSub := if s.rdrSub = .wrA then .wrB else .chk } ∧
    (∀ c : Bool, c = (if s.rdrSub = .wrA then s.rdFirst else !s.rdFirst) →
      t.mem.read c.toNat = (if c = false then s.rdC0 else s.rdC1).setWidth 16 ∧
      ∀ p, p ≠ c.toNat → t.mem.read p = s.mem.read p)

/-- R149, R70 (c): one whole SR.POLL that finds a frame. Between the two stores exactly one word is new, the one the draw
names; after them both are. -/
def Obligations.PollStoresBothSnapshots : Prop :=
  ∀ s : State, s.rdrSub = .chk → s.srRxValid = true →
    ∃ s1 s2 s3 t, exec .srPollPop s = .next s1 ∧ exec .srTrig s1 = .next s2 ∧ exec .snapWr s2 = .next s3 ∧
      exec .snapWr s3 = .next t ∧
      (∀ f, (t.mem.read 0).getLsbD (fieldBit f) = !s.srRxWord.getLsbD (2 * srPosOf s.params f)) ∧
      (∀ f, (t.mem.read 1).getLsbD (fieldBit f) = !s.srRxWord.getLsbD (2 * srPosOf s.params f + 1)) ∧
      (∀ p, p < 2 → s3.mem.read p = if p = s2.rdFirst.toNat then t.mem.read p else s.mem.read p) ∧
      (∀ p, 2 ≤ p → t.mem.read p = s.mem.read p) ∧
      t = { s with
        mem := t.mem
        rdW := s.srRxWord
        rdC0 := t.rdC0
        rdC1 := t.rdC1
        rdFirst := t.rdFirst
        draws := t.draws
        srRxValid := false
        srTrig := true
        rdrSub := .chk }

/-- R133, shift-register side: two frame words that differ in the level of one position of one controller decode to snapshots
that differ in exactly that field, and the other controller's snapshots are equal. -/
def Obligations.FrameDecodingIsInjectivePerButton : Prop :=
  ∀ (c : Params) (w v : FrameWord) (f : Field) (ctl : Nat), c.WellFormed = true → ctl < 2 →
    (∀ j, j < 32 → (w.getLsbD j ≠ v.getLsbD j ↔ j = 2 * (srPosOf c f).val + ctl)) →
    (∀ g, (decodeFrame c w ctl).getLsbD (fieldBit g) ≠ (decodeFrame c v ctl).getLsbD (fieldBit g) ↔ g = f) ∧
    decodeFrame c w (1 - ctl) = decodeFrame c v (1 - ctl)

/-- R104, U23: positions 12 to 15 of a frame word change no snapshot. -/
def Obligations.UpperFramePositionsAreIgnored : Prop :=
  ∀ (c : Params) (w v : FrameWord) (ctl : Nat), ctl < 2 → (∀ j, j < 24 → w.getLsbD j = v.getLsbD j) →
    decodeFrame c w ctl = decodeFrame c v ctl

/-! ### The reader context, toggle-multiplex side -/

/-- R171: TM.INIT drives the select line and the power-enable line. -/
def Obligations.ToggleInitialisationDrivesItsLines : Prop :=
  ∀ s : State, exec .tmInit s = .next
    { s with tmSel := s.params.tmSelInit, tmPwr := s.params.tmPwrActive, tmPc := 0, rdrPc := .tmProbe }

/-- R172 to R177: the five phase operations drive the select line, sample all six lines into the latch they name, and advance
by one; the identification sample is taken in the detection pass at the identification phase only. -/
def Obligations.PhaseOperationsDriveSampleAndAdvance : Prop :=
  ∀ (s : State) (i : Instr) (l : Bool) (m : Latch),
    (i, l, m) ∈ [(Instr.tmPhS1, true, Latch.s1), (.tmPhS2, false, .s2), (.tmPhHi, true, .silent), (.tmPhLo, false, .silent),
      (.tmPhSf, true, .sf)] →
    exec i s = .next { s with
      tmSel := l
      tmS1 := if m = .s1 then s.lines.tmIn else s.tmS1
      tmS2 := if m = .s2 then s.lines.tmIn else s.tmS2
      tmSf := if m = .sf then s.lines.tmIn else s.tmSf
      tmSid := if s.rdrPc = .tmDetect ∧ s.tmPc = s.params.tmIdPhase then s.lines.tmIn else s.tmSid
      tmPc := s.tmPc + 1 }

/-- R179, R180, R181: TM.COMMIT stores in `SNAP[0]`, for each field, the complement of its line in its latch, 0 in the extended
fields while `ext6` = 0 and 0 in `X3`; no other word changes. -/
def Obligations.CommitStoresTheDecodedLatches : Prop :=
  ∀ s : State, ∃ t, exec .tmCommit s = .next t ∧
    (∀ f, (t.mem.read 0).getLsbD (fieldBit f) = match tmPlaceOf s.params f with
      | some (pt, n) => (s.ext6 || !extendedField f) && !(pickSample pt s.tmS1 s.tmS2 s.tmSf).getLsbD n
      | none => false) ∧
    (t.mem.read 0).toNat < 2048 ∧
    (∀ p, p ≠ 0 → t.mem.read p = s.mem.read p) ∧
    t = { s with mem := t.mem, tmPc := 0 }

/-- R183: TM.DETECT.END computes `ext6` from the identification sample by `TM_EXT_DETECT`. -/
def Obligations.DetectionEndComputesTheFlag : Prop :=
  ∀ s : State, exec .tmDetectEnd s = .next
    { s with ext6 := s.params.tmExtTable.getLsbD s.tmSid.toNat, tmPc := 0, rdrPc := .tmLoop }

/-- R184 (d), R296: in every phase position a reader step drives the select level of the alternating waveform, high at even
indices, whatever `ext6`, the latches and the input lines are, and advances by one. -/
def Obligations.SelectWaveformIsTheSameInEveryPoll : Prop :=
  ∀ (s : State) (cs : List Choice), s.pending = .rdr :: cs → (s.rdrPc = .tmDetect ∨ s.rdrPc = .tmLoop) →
    s.tmPc < nPh s.params →
    ∃ t, step s = .next t ∧ t.tmSel = decide (s.tmPc % 2 = 0) ∧ t.tmPc = s.tmPc + 1 ∧
      t = { s with pending := cs, tmSel := t.tmSel, tmPc := t.tmPc, tmS1 := t.tmS1, tmS2 := t.tmS2, tmSf := t.tmSf,
                   tmSid := t.tmSid }

/-- R170, R113: a whole toggle-multiplex poll, for any number of unlock pairs: what is stored is the decode of the three
samples, at the first level, the second level and the last. -/
def Obligations.TogglePollStoresWhatItSampled : Prop :=
  ∀ (s : State) (l : Lines) (v1 v2 vf : TmSample) (rest : List Choice),
    s.rdrPc = .tmLoop → s.tmPc = 0 → s.pending = tmPoll l s.params.tmUnlockPairs v1 v2 vf ++ rest →
    ∃ t, core.run (2 * s.params.tmUnlockPairs + 7) s = .next t ∧
      (∀ f, (t.mem.read 0).getLsbD (fieldBit f) = match tmPlaceOf s.params f with
        | some (pt, n) => (s.ext6 || !extendedField f) && !(pickSample pt v1 v2 vf).getLsbD n
        | none => false) ∧
      (∀ p, p ≠ 0 → t.mem.read p = s.mem.read p) ∧
      t = { s with pending := rest, lines := { l with tmIn := vf }, tmSel := true, tmS1 := v1, tmS2 := v2, tmSf := vf,
                   tmPc := 0, mem := t.mem }

/-- R133, toggle-multiplex side: one line toggled at one sampling point changes the stored field that `TM_PLACE` puts there and
no other; with `ext6` = 0 the lines of the final point change nothing. -/
def Obligations.LatchDecodingIsInjectivePerButton : Prop :=
  ∀ (c : Params) (f : Field) (pt : TmPoint) (n : Fin 6) (p1 p2 pf d : TmSample) (ext6 : Bool), c.WellFormed = true →
    tmPlaceOf c f = some (pt, n) → (∀ j, j < 6 → (d.getLsbD j = true ↔ j = n.val)) →
    ∀ g, (placeTm c p1 p2 pf ext6).getLsbD (fieldBit g) ≠
      (placeTm c (if pt = .first then p1 ^^^ d else p1) (if pt = .second then p2 ^^^ d else p2)
        (if pt = .final then pf ^^^ d else pf) ext6).getLsbD (fieldBit g) ↔
      g = f ∧ (pt = .final → ext6 = true)

/-- R134, R151, R184 (a): with every sampled line of a controller idle, the decoded snapshot is 0x000, in both readers. -/
def Obligations.IdleLinesDecodeToAllReleased : Prop :=
  (∀ (c : Params) (w : FrameWord) (ctl : Nat), ctl < 2 → (∀ k, k < 16 → w.getLsbD (2 * k + ctl) = true) →
    decodeFrame c w ctl = 0) ∧
  (∀ s : State, s.tmS1 = BitVec.allOnes 6 → s.tmS2 = BitVec.allOnes 6 → s.tmSf = BitVec.allOnes 6 → commitValue s = 0)

/-! ### Start-up -/

/-- R201: the probe finds a controller exactly where some probed line is driven low. -/
def Obligations.ProbeSeesALineDrivenLow : Prop :=
  ∀ s : State, ∃ t, exec .tmProbe s = .next t ∧
    (t.tmPresent = true ↔ ∃ j, j < 6 ∧ s.params.tmProbeMask.getLsbD j = true ∧ s.lines.tmIn.getLsbD j = false) ∧
    t = { s with tmPresent := t.tmPresent, rdrPc := .select }

/-- R202: BOOT.SELECT fixes the mode by the probe's result. -/
def Obligations.SelectionFixesTheMode : Prop :=
  ∀ s : State, exec .bootSelect s = .next (
    if s.tmPresent = true then { s with mode := .tm, tmPc := 0, rdrPc := .tmDetect }
    else { s with mode := .sr, rdrPc := .srInit })

/-- R200, R203: from the entry point, three reader steps select the toggle-multiplex reader where the probe succeeds, and four
reader steps enter the shift-register loop where it fails, whatever the platform offers. -/
def Obligations.BootReachesTheSelectedReader : Prop :=
  ∀ (s : State) (cs : List Choice), s.rdrPc = .tmInit → s.pending = [.rdr, .rdr, .rdr, .rdr] ++ cs →
    (probePresent s.params s.lines.tmIn = true →
      ∃ t, core.run 3 s = .next t ∧ t.mode = .tm ∧ t.rdrPc = .tmDetect ∧ t.tmPc = 0 ∧ t.mem = s.mem) ∧
    (probePresent s.params s.lines.tmIn = false →
      ∃ t, core.run 4 s = .next t ∧ t.mode = .sr ∧ t.rdrPc = .srLoop ∧ t.rdrSub = .chk ∧
        t.srOk = s.params.seqAvailable ∧ t.mem = s.mem)

/-! ### The bus emulator -/

/-- R217: BE.IDLE resets the multiplexing state. -/
def Obligations.IdleResetsTheMultiplexing : Prop :=
  ∀ (s : State) (d e : Bool), exec (.beIdle d e) s = .next
    { s with beState := .idle, cnt := 0, port := 0, prevSel := e }

/-- R218: BE.EDGE counts one transition, saturating, recomputes the port, and notes the condition where the new port is 2. -/
def Obligations.EdgeCountsWithSaturation : Prop :=
  ∀ (s : State) (e : Bool), ∃ t, exec (.beEdge e) s = .next t ∧
    t.cnt = (if s.cnt < s.params.cntSat then s.cnt + 1 else s.params.cntSat) ∧
    t = { s with beState := .addressing, cnt := t.cnt, port := t.cnt / 2, prevSel := e } ∧
    raised (.beEdge e) s = (if t.port = 2 then some .protocolDesync else none)

/-- R219: BE.HOLD keeps the count and the port. -/
def Obligations.HoldKeepsTheMultiplexing : Prop :=
  ∀ (s : State) (e : Bool), exec (.beHold e) s = .next { s with beState := .addressing, prevSel := e }

/-- R221, R222, R223: the output operations, line by line; BE.OUT.DIR and BE.OUT.BTN read one snapshot. -/
def Obligations.OutputOperationsDriveTheHalf : Prop :=
  (∀ (s : State) (pp : BitVec 2), pp.toNat < 2 →
    (∃ t, exec (.beOutDir pp) s = .next t ∧ t = { s with out := t.out } ∧
      ∀ j, j < 4 → t.out.getLsbD j = !(s.mem.read pp.toNat).getLsbD j) ∧
    (∃ t, exec (.beOutBtn pp) s = .next t ∧ t = { s with out := t.out } ∧
      ∀ j, j < 4 → t.out.getLsbD j = !(s.mem.read pp.toNat).getLsbD (4 + j))) ∧
  (∀ (s : State) (pp : BitVec 2) (e : Bool), exec (.beOutNone pp e) s = .next { s with out := 0b1111#4 })

/-- R61: a snapshot of index 2 or more does not exist: MemRead answers none exactly there, and the two output operations that
would read it are refused. -/
def Obligations.MissingSnapshotIsRefused : Prop :=
  (∀ (s : State) (p : Nat), memRead p s = none ↔ 2 ≤ p) ∧
  (∀ (s : State) (pp : BitVec 2), 2 ≤ pp.toNat →
    exec (.beOutDir pp) s = .refused .noSuchSnapshot ∧ exec (.beOutBtn pp) s = .refused .noSuchSnapshot)

/-- R224, R226, R256: one BE step from any state, with the function OUT. That BE is the agent to step is the head of `pending`,
the model's form of the schedule of R13 (log 2), here and below. -/
def Obligations.BusStepDrivesTheAddressedHalf : Prop :=
  ∀ (s : State) (cs : List Choice), s.pending = .be :: cs →
    ∃ t, step s = .next t ∧
      t.cnt = (if s.lines.en = true then 0 else if s.lines.sel = s.prevSel then s.cnt else min (s.cnt + 1) s.params.cntSat) ∧
      t.port = (if s.lines.en = true then 0 else if s.lines.sel = s.prevSel then s.port else t.cnt / 2) ∧
      (∀ j, j < 4 → t.out.getLsbD j = busLine s.lines.en t.port s.lines.sel s.mem j) ∧
      t = { s with
        pending := cs
        beState := if s.lines.en = true then .idle else .addressing
        cnt := t.cnt
        port := t.port
        prevSel := s.lines.sel
        out := t.out }

/-- R227: after a BE step, a later BE step that samples the same levels, with the store and the bus emulator's own registers
as the first one left them, changes nothing, whatever the other agents did in between. -/
def Obligations.RepeatedBusStepChangesNothing : Prop :=
  ∀ (s t u : State) (cs ds : List Choice), s.pending = .be :: cs → step s = .next t → u.pending = .be :: ds →
    u.lines.en = s.lines.en → u.lines.sel = s.lines.sel → u.mem = t.mem → u.beState = t.beState → u.cnt = t.cnt →
    u.port = t.port → u.prevSel = t.prevSel → u.out = t.out → step u = .next { u with pending := ds }

/-- R228: the host's regular sequence after an idle step, from either select level: the j-th state of the window has count j,
addresses port j / 2 and presents the half of the current level; the fifth presents no data. -/
def Obligations.HostSequenceReadsBothPorts : Prop :=
  ∀ (s : State) (l : Lines) (b : Bool) (rest : List Choice) (j : Nat), j < 5 → 4 ≤ s.params.cntSat →
    s.pending = host l true b ++ hostWindow l [b, !b, b, !b, b] ++ rest →
    ∃ t, core.run (2 * (j + 2)) s = .next t ∧ t.cnt = j ∧ t.port = j / 2 ∧ t.mem = s.mem ∧
      (∀ n, n < 4 → t.out.getLsbD n =
        if j = 4 then true
        else !(s.mem.read (j / 2)).getLsbD (if (decide (j % 2 = 0)) = b then n else n + 4))

/-- R253, R294, R223: once the count has reached four, any further addressing states, whatever their select levels, present no
data and never wrap to a port. -/
def Obligations.DesynchronisedWindowShowsNoData : Prop :=
  ∀ (levels : List Bool) (s : State) (l : Lines) (rest : List Choice), levels ≠ [] →
    4 ≤ s.cnt → s.cnt ≤ s.params.cntSat → s.port = s.cnt / 2 → s.pending = hostWindow l levels ++ rest →
    ∃ t, core.run (2 * levels.length) s = .next t ∧ t.out = 0b1111#4 ∧ 2 ≤ t.port ∧ 4 ≤ t.cnt ∧
      t.cnt ≤ s.params.cntSat ∧ t.pending = rest

/-! ### The store, the conditions, and whole-machine rules -/

/-- R61, R62, R67: a store is read back whole, leaves the other word alone, and keeps the canonical form. -/
def Obligations.StoreIsReadBackWhole : Prop :=
  ∀ (s : State) (p : Nat) (v : Snapshot), p < 2 →
    ∃ t, memWrite p v s = some t ∧ memRead p t = some v ∧ (t.mem.read p).toNat < 4096 ∧
      (∀ q, q ≠ p → t.mem.read q = s.mem.read q) ∧ (s.mem.wf = true → t.mem.wf = true) ∧ t = { s with mem := t.mem }

/-- R62, R240: no operation but SNAP.WR and TM.COMMIT writes the store. -/
def Obligations.OnlyTwoOperationsWriteTheStore : Prop :=
  ∀ (i : Instr) (s t : State), exec i s = .next t → i ≠ .snapWr → i ≠ .tmCommit → t.mem = s.mem

/-- R250, R251, R253, R257: which operation notes which condition; noting one stops nothing. The clause on `ControllerAbsent` is
the model's choice (log 23): R250's table lists SNAP.WR, R131 says that it raises none. -/
def Obligations.ConditionsAreNotedAndStopNothing : Prop :=
  ∀ (i : Instr) (s : State),
    (raised i s = some .resourceUnavailable ↔ i = .srInit ∧ s.params.seqAvailable = false) ∧
    (raised i s = some .protocolDesync ↔ (∃ e, i = .beEdge e) ∧ min (s.cnt + 1) s.params.cntSat / 2 = 2) ∧
    (raised i s = some .controllerAbsent →
      (i = .tmCommit ∧ commitValue s = 0) ∨ (i = .snapWr ∧ snapValue s = 0)) ∧
    (∀ c, raised i s = some c → ∃ t, exec i s = .next t)

/-- R42: an operation of one agent writes only the registers that agent owns; the set and clear flags move one way; SR.INIT
alone among the reader's operations initialises the sequencer's registers. -/
def Obligations.OperationsWriteOnlyTheirAgentsRegisters : Prop :=
  ∀ (i : Instr) (s t : State), exec i s = .next t →
    (agentOf i = .seq →
      t = { s with srIsr := t.srIsr, srRxWord := t.srRxWord, srPc := t.srPc, srClk := t.srClk, srLatch := t.srLatch,
                   srRxValid := t.srRxValid, srTrig := t.srTrig } ∧
      (s.srRxValid = true → t.srRxValid = true) ∧ (t.srTrig = true → s.srTrig = true)) ∧
    (agentOf i = .be →
      t = { s with out := t.out, cnt := t.cnt, port := t.port, prevSel := t.prevSel, beState := t.beState }) ∧
    (agentOf i = .rdr →
      t = { s with mem := t.mem, tmS1 := t.tmS1, tmS2 := t.tmS2, tmSf := t.tmSf, tmSid := t.tmSid, rdW := t.rdW,
                   rdC0 := t.rdC0, rdC1 := t.rdC1, rdFirst := t.rdFirst, rdrPc := t.rdrPc, rdrSub := t.rdrSub,
                   tmPc := t.tmPc, ext6 := t.ext6, srOk := t.srOk, tmPresent := t.tmPresent, mode := t.mode,
                   srRxValid := t.srRxValid, srTrig := t.srTrig, tmSel := t.tmSel, tmPwr := t.tmPwr, srPc := t.srPc,
                   srClk := t.srClk, srLatch := t.srLatch, draws := t.draws } ∧
      (t.srRxValid = true → s.srRxValid = true) ∧ (s.srTrig = true → t.srTrig = true) ∧
      (i ≠ .srInit → t.srPc = s.srPc ∧ t.srClk = s.srClk ∧ t.srLatch = s.srLatch))

/-- R262, R41: the host acts through `en` and `sel` only, and neither line reaches an operation of SEQ or RDR: changing them
changes nothing else in what such an operation does. -/
def Obligations.HostLinesReachOnlyTheBusEmulator : Prop :=
  ∀ (i : Instr) (s : State) (e x : Bool), agentOf i ≠ .be →
    exec i { s with lines := { s.lines with en := e, sel := x } } =
      match exec i s with
      | .next t => .next { t with lines := { t.lines with en := e, sel := x } }
      | .fault r => .fault r
      | .refused r => .refused r

/-- R241, R143, R144, R150: the line registers after an operation, and after a whole step of any agent, are what the levels it
drove, in order, leave. -/
def Obligations.DrivenLevelsGiveTheLineRegisters : Prop :=
  (∀ (i : Instr) (s t : State), exec i s = .next t →
    t.srClk = ((drives i s).foldl State.drive s).srClk ∧
    t.srLatch = ((drives i s).foldl State.drive s).srLatch ∧
    t.tmSel = ((drives i s).foldl State.drive s).tmSel ∧
    t.tmPwr = ((drives i s).foldl State.drive s).tmPwr ∧
    t.out = ((drives i s).foldl State.drive s).out) ∧
  (∀ (c : Choice) (s t : State), runChoice exec c s = .next t →
    t.srClk = ((stepDrives c s).foldl State.drive s).srClk ∧
    t.srLatch = ((stepDrives c s).foldl State.drive s).srLatch ∧
    t.tmSel = ((stepDrives c s).foldl State.drive s).tmSel ∧
    t.tmPwr = ((stepDrives c s).foldl State.drive s).tmPwr ∧
    t.out = ((stepDrives c s).foldl State.drive s).out)

/-- R150, R302, R303: the nominal lengths of a frame and of a toggle-multiplex poll, from the slots and the phase table. The
figures are the source's approximations; no rule depends on them. -/
def Obligations.NominalLengthsAddUp : Prop :=
  ∀ c : Params,
    (c.srLatchClocks = 1 → waitNs c .srSeqLatch + 16 * waitNs c .srSeqShift = 17 * c.srClkNs) ∧
    (((phaseTable c.tmUnlockPairs).map (phaseNs c)).sum = nPh c * c.settleNs)

/-- R46 (a) to (d) and (f), R28, R130: every step keeps the invariant. -/
def Obligations.EveryStepKeepsTheInvariant : Prop :=
  ∀ s t : State, Inv s → step s = .next t → Inv t

/-- The invariant holds right after power-on (R48). -/
def Obligations.ResetMeetsTheInvariant : Prop :=
  Inv State.reset

/-- R225, R250, R257, R259: in a state that meets the invariant no step of any agent stops, whatever the schedule and the input
lines. -/
def Obligations.EveryStepCompletes : Prop :=
  ∀ s : State, Inv s → ∃ t, step s = .next t

/-- R46 (e), R36, R202: once the mode is selected it never changes. -/
def Obligations.SelectedModeNeverChanges : Prop :=
  ∀ s t : State, Inv s → s.mode ≠ .boot → step s = .next t → t.mode = s.mode

/-- R46 (g): idle means no data and no count; every BE step establishes it and every step keeps it. -/
def Obligations.IdleStateShowsNoData : Prop :=
  (∀ (s t : State) (cs : List Choice), s.pending = .be :: cs → step s = .next t →
    t.beState = .idle → t.out = 0b1111#4 ∧ t.cnt = 0 ∧ t.port = 0) ∧
  (∀ s t : State, (s.beState = .idle → s.out = 0b1111#4 ∧ s.cnt = 0 ∧ s.port = 0) → step s = .next t →
    t.beState = .idle → t.out = 0b1111#4 ∧ t.cnt = 0 ∧ t.port = 0)

/-- R204, R46 (d): where both the probe and the acquisition failed, no step ever writes a snapshot or leaves that state, and
the bus shows nothing pressed. -/
def Obligations.DegradedBlockNeverStores : Prop :=
  ∀ s t : State, Inv s → s.rdrPc = .srLoop → s.srOk = false → step s = .next t →
    t.rdrPc = .srLoop ∧ t.srOk = false ∧ t.mem.read 0 = 0 ∧ t.mem.read 1 = 0 ∧
    (∀ cs, s.pending = .be :: cs → t.out = 0b1111#4)

/-- R205: with the shift-register reader selected no step drives a toggle-multiplex line, and with the toggle-multiplex reader
selected no step drives a shift-register line: whichever agent steps, the levels it drives hold none for those lines, not even
one taken back inside the step, and the line registers keep their levels. -/
def Obligations.UnselectedLinesAreNeverDriven : Prop :=
  (∀ (s : State) (c : Choice), Inv s →
    (s.mode = .sr → ∀ v, Drive.tmSel v ∉ stepDrives c s ∧ Drive.tmPwr v ∉ stepDrives c s) ∧
    (s.mode = .tm → ∀ v, Drive.srClk v ∉ stepDrives c s ∧ Drive.srLatch v ∉ stepDrives c s)) ∧
  (∀ s t : State, Inv s → step s = .next t →
    (s.mode = .sr → t.tmSel = s.tmSel ∧ t.tmPwr = s.tmPwr) ∧
    (s.mode = .tm → t.srClk = s.srClk ∧ t.srLatch = s.srLatch))

/-- R9, R20, R75: no step changes a parameter, the phase table or the slot program. -/
def Obligations.ParametersNeverChange : Prop :=
  ∀ s t : State, step s = .next t → t.params = s.params

/-- R48: the registers whose reset value the spec states. -/
def Obligations.ResetHasTheStatedValues : Prop :=
  State.reset.mem.read 0 = 0 ∧ State.reset.mem.read 1 = 0 ∧ State.reset.cnt = 0 ∧ State.reset.port = 0 ∧
  State.reset.beState = .idle ∧ State.reset.mode = .boot ∧ State.reset.rdrPc = .tmInit ∧ State.reset.rdrSub = .chk ∧
  State.reset.tmPc = 0 ∧ State.reset.tmPresent = false ∧ State.reset.ext6 = false ∧ State.reset.srOk = false ∧
  State.reset.srPc = .wait ∧ State.reset.srTrig = false ∧ State.reset.srRxValid = false
end

