-- ==== Sys2Proof/Laws/Operands.lean ====
section
/-! SUPPORT. The bits of the assembled operands. -/

namespace Sys2Proof.Machine

theorem getLsbD_packBits (f : Nat → Bool) (n i : Nat) : (packBits f n).getLsbD i = (decide (i < n) && f i) := by
  induction n with
  | zero => simp [packBits]
  | succ n ih =>
    simp only [packBits, BitVec.getLsbD_cons, ih]
    by_cases h : i = n
    · subst h; simp
    · by_cases h' : i < n
      · simp [h, h', Nat.lt_succ_of_lt h']
      · have : ¬ i < n + 1 := by omega
        simp [h, h', this]

/-- The bit of a field holds the field's value. -/
theorem getLsbD_packFields (g : Field → Bool) (f : Field) : (packFields g).getLsbD (fieldBit f) = g f := by
  unfold packFields
  rw [getLsbD_packBits]
  cases f <;> rfl

@[simp] theorem getElem_packFields (g : Field → Bool) (f : Field) : (packFields g)[(fieldBit f).val] = g f :=
  getLsbD_packFields g f

/-- Two snapshots with the same fields are equal. -/
theorem snapshot_ext {a b : Snapshot} (h : ∀ f, a.getLsbD (fieldBit f) = b.getLsbD (fieldBit f)) : a = b := by
  apply BitVec.eq_of_getLsbD_eq
  intro i hi
  have hf : ∃ f, ((fieldBit f : Fin 12) : Nat) = i := by
    interval_cases i
    exacts [⟨.up, rfl⟩, ⟨.right, rfl⟩, ⟨.down, rfl⟩, ⟨.left, rfl⟩, ⟨.b1, rfl⟩, ⟨.b2, rfl⟩, ⟨.bsel, rfl⟩, ⟨.brun, rfl⟩,
      ⟨.x0, rfl⟩, ⟨.x1, rfl⟩, ⟨.x2, rfl⟩, ⟨.x3, rfl⟩]
  obtain ⟨f, rfl⟩ := hf
  exact h f

@[simp] theorem lastSlot_eq : lastSlot = 15 := Fin.ext (by decide)

@[simp] theorem noData_eq : noData = 0b1111#4 := rfl

theorem getLsbD_deint (v : FrameWord) (c k : Nat) : (deint v c).getLsbD k = (decide (k < 16) && v.getLsbD (2 * k + c)) := by
  rw [deint, getLsbD_packBits]

/-- A field of a decoded frame is pressed where its position's level is low (R104, R105). -/
theorem getLsbD_decodeFrame (c : Params) (w : FrameWord) (ctl : Nat) (f : Field) (hc : ctl < 2) :
    (decodeFrame c w ctl).getLsbD (fieldBit f) = !w.getLsbD (2 * (srPosOf c f).val + ctl) := by
  have hp : (srPosOf c f).val < 12 := (srPosOf c f).isLt
  have hm : ∀ k, k < 12 → serialMask.getLsbD k = true := by decide
  simp only [decodeFrame, placeSr, getLsbD_packFields, BitVec.getLsbD_setWidth, BitVec.getLsbD_and, getLsbD_deint,
    BitVec.getLsbD_not, hm _ hp]
  simp [hp, show (srPosOf c f).val < 16 by omega, show 2 * (srPosOf c f).val + ctl < 32 by omega]

/-- A field's bit, as a numeral bound. -/
theorem fieldBit_lt (f : Field) : (fieldBit f).val < 12 := (fieldBit f).isLt

/-- A field's serial position, as a numeral bound. -/
theorem srPosOf_lt (c : Params) (f : Field) : (srPosOf c f).val < 12 := (srPosOf c f).isLt

/-- A slot's index, as a numeral bound. -/
theorem slot_lt (k : Fin srFrameClocks) : k.val < 16 := k.isLt

/-- A snapshot's value, as a numeral bound. -/
theorem snapshot_toNat_lt (v : Snapshot) : v.toNat < 4096 := v.isLt

/-- `SR_WORD_BITS` is the product R9 gives. -/
theorem srWordBits_eq : srWordBits = srFrameClocks * srBitsPerClock := rfl

/-- A snapshot kept in a word of any width of at least `SNAP_BITS` is read back whole, so `SNAP_WORD_BITS` shows nowhere
(R9, U15). -/
theorem snapshot_of_any_word_width (n : Nat) (h : snapBits ≤ n) (v : Snapshot) : (v.setWidth n).setWidth snapBits = v := by
  rw [BitVec.setWidth_setWidth_of_le _ h, BitVec.setWidth_eq]

theorem getLsbD_dirHalf (s : Snapshot) (j : Nat) (h : j < 4) : (dirHalf s).getLsbD j = !s.getLsbD j := by
  simp [dirHalf, h]

theorem getLsbD_btnHalf (s : Snapshot) (j : Nat) (h : j < 4) : (btnHalf s).getLsbD j = !s.getLsbD (4 + j) := by
  simp [btnHalf, h]

theorem getLsbD_shiftIn_low (isr : FrameWord) (x : BitVec 2) (j : Nat) (h : j < 30) :
    (shiftIn isr x).getLsbD j = isr.getLsbD (j + 2) := by
  refine (BitVec.getLsbD_append (x := x) (y := isr.extractLsb' 2 30)).trans ?_
  simp [h, Nat.add_comm]

theorem getLsbD_shiftIn_high (isr : FrameWord) (x : BitVec 2) (j : Nat) :
    (shiftIn isr x).getLsbD (30 + j) = x.getLsbD j := by
  refine (BitVec.getLsbD_append (x := x) (y := isr.extractLsb' 2 30)).trans ?_
  simp

theorem silentPairs_length (p : Nat) : (silentPairs p).length = 2 * p := by
  induction p with
  | zero => rfl
  | succ p ih => simp only [silentPairs, List.length_cons, ih]; omega

theorem phaseTable_length (c : Params) : (phaseTable c.tmUnlockPairs).length = nPh c := by
  simp only [phaseTable, nPh, List.length_cons, List.length_append, silentPairs_length, List.length_nil]

theorem portOf_lt_two (n : Nat) : portOf n < 2 ↔ n < 4 := by
  unfold portOf; omega

end Sys2Proof.Machine
end

