-- ==== Sys2Proof/Laws/State.lean ====
section
/-! SUPPORT. What each named update of the state leaves in each field. -/

namespace Sys2Proof.Machine

/-! ### Put a trigger -/

@[simp] theorem State.putTrigger_params (s : State) : s.putTrigger.params = s.params := rfl
@[simp] theorem State.putTrigger_lines (s : State) : s.putTrigger.lines = s.lines := rfl
@[simp] theorem State.putTrigger_pending (s : State) : s.putTrigger.pending = s.pending := rfl
@[simp] theorem State.putTrigger_draws (s : State) : s.putTrigger.draws = s.draws := rfl
@[simp] theorem State.putTrigger_mem (s : State) : s.putTrigger.mem = s.mem := rfl
@[simp] theorem State.putTrigger_srIsr (s : State) : s.putTrigger.srIsr = s.srIsr := rfl
@[simp] theorem State.putTrigger_srRxWord (s : State) : s.putTrigger.srRxWord = s.srRxWord := rfl
@[simp] theorem State.putTrigger_tmS1 (s : State) : s.putTrigger.tmS1 = s.tmS1 := rfl
@[simp] theorem State.putTrigger_tmS2 (s : State) : s.putTrigger.tmS2 = s.tmS2 := rfl
@[simp] theorem State.putTrigger_tmSf (s : State) : s.putTrigger.tmSf = s.tmSf := rfl
@[simp] theorem State.putTrigger_tmSid (s : State) : s.putTrigger.tmSid = s.tmSid := rfl
@[simp] theorem State.putTrigger_out (s : State) : s.putTrigger.out = s.out := rfl
@[simp] theorem State.putTrigger_rdW (s : State) : s.putTrigger.rdW = s.rdW := rfl
@[simp] theorem State.putTrigger_rdC0 (s : State) : s.putTrigger.rdC0 = s.rdC0 := rfl
@[simp] theorem State.putTrigger_rdC1 (s : State) : s.putTrigger.rdC1 = s.rdC1 := rfl
@[simp] theorem State.putTrigger_rdFirst (s : State) : s.putTrigger.rdFirst = s.rdFirst := rfl
@[simp] theorem State.putTrigger_srPc (s : State) : s.putTrigger.srPc = s.srPc := rfl
@[simp] theorem State.putTrigger_tmPc (s : State) : s.putTrigger.tmPc = s.tmPc := rfl
@[simp] theorem State.putTrigger_rdrPc (s : State) : s.putTrigger.rdrPc = s.rdrPc := rfl
@[simp] theorem State.putTrigger_rdrSub (s : State) : s.putTrigger.rdrSub = s.rdrSub := rfl
@[simp] theorem State.putTrigger_beState (s : State) : s.putTrigger.beState = s.beState := rfl
@[simp] theorem State.putTrigger_srRxValid (s : State) : s.putTrigger.srRxValid = s.srRxValid := rfl
@[simp] theorem State.putTrigger_srTrig (s : State) : s.putTrigger.srTrig = true := rfl
@[simp] theorem State.putTrigger_ext6 (s : State) : s.putTrigger.ext6 = s.ext6 := rfl
@[simp] theorem State.putTrigger_srOk (s : State) : s.putTrigger.srOk = s.srOk := rfl
@[simp] theorem State.putTrigger_tmPresent (s : State) : s.putTrigger.tmPresent = s.tmPresent := rfl
@[simp] theorem State.putTrigger_mode (s : State) : s.putTrigger.mode = s.mode := rfl
@[simp] theorem State.putTrigger_cnt (s : State) : s.putTrigger.cnt = s.cnt := rfl
@[simp] theorem State.putTrigger_port (s : State) : s.putTrigger.port = s.port := rfl
@[simp] theorem State.putTrigger_prevSel (s : State) : s.putTrigger.prevSel = s.prevSel := rfl
@[simp] theorem State.putTrigger_srClk (s : State) : s.putTrigger.srClk = s.srClk := rfl
@[simp] theorem State.putTrigger_srLatch (s : State) : s.putTrigger.srLatch = s.srLatch := rfl
@[simp] theorem State.putTrigger_tmSel (s : State) : s.putTrigger.tmSel = s.tmSel := rfl
@[simp] theorem State.putTrigger_tmPwr (s : State) : s.putTrigger.tmPwr = s.tmPwr := rfl

/-! ### Take the trigger -/

@[simp] theorem State.takeTrigger_params (s : State) : s.takeTrigger.params = s.params := rfl
@[simp] theorem State.takeTrigger_lines (s : State) : s.takeTrigger.lines = s.lines := rfl
@[simp] theorem State.takeTrigger_pending (s : State) : s.takeTrigger.pending = s.pending := rfl
@[simp] theorem State.takeTrigger_draws (s : State) : s.takeTrigger.draws = s.draws := rfl
@[simp] theorem State.takeTrigger_mem (s : State) : s.takeTrigger.mem = s.mem := rfl
@[simp] theorem State.takeTrigger_srIsr (s : State) : s.takeTrigger.srIsr = s.srIsr := rfl
@[simp] theorem State.takeTrigger_srRxWord (s : State) : s.takeTrigger.srRxWord = s.srRxWord := rfl
@[simp] theorem State.takeTrigger_tmS1 (s : State) : s.takeTrigger.tmS1 = s.tmS1 := rfl
@[simp] theorem State.takeTrigger_tmS2 (s : State) : s.takeTrigger.tmS2 = s.tmS2 := rfl
@[simp] theorem State.takeTrigger_tmSf (s : State) : s.takeTrigger.tmSf = s.tmSf := rfl
@[simp] theorem State.takeTrigger_tmSid (s : State) : s.takeTrigger.tmSid = s.tmSid := rfl
@[simp] theorem State.takeTrigger_out (s : State) : s.takeTrigger.out = s.out := rfl
@[simp] theorem State.takeTrigger_rdW (s : State) : s.takeTrigger.rdW = s.rdW := rfl
@[simp] theorem State.takeTrigger_rdC0 (s : State) : s.takeTrigger.rdC0 = s.rdC0 := rfl
@[simp] theorem State.takeTrigger_rdC1 (s : State) : s.takeTrigger.rdC1 = s.rdC1 := rfl
@[simp] theorem State.takeTrigger_rdFirst (s : State) : s.takeTrigger.rdFirst = s.rdFirst := rfl
@[simp] theorem State.takeTrigger_srPc (s : State) : s.takeTrigger.srPc = s.srPc := rfl
@[simp] theorem State.takeTrigger_tmPc (s : State) : s.takeTrigger.tmPc = s.tmPc := rfl
@[simp] theorem State.takeTrigger_rdrPc (s : State) : s.takeTrigger.rdrPc = s.rdrPc := rfl
@[simp] theorem State.takeTrigger_rdrSub (s : State) : s.takeTrigger.rdrSub = s.rdrSub := rfl
@[simp] theorem State.takeTrigger_beState (s : State) : s.takeTrigger.beState = s.beState := rfl
@[simp] theorem State.takeTrigger_srRxValid (s : State) : s.takeTrigger.srRxValid = s.srRxValid := rfl
@[simp] theorem State.takeTrigger_srTrig (s : State) : s.takeTrigger.srTrig = false := rfl
@[simp] theorem State.takeTrigger_ext6 (s : State) : s.takeTrigger.ext6 = s.ext6 := rfl
@[simp] theorem State.takeTrigger_srOk (s : State) : s.takeTrigger.srOk = s.srOk := rfl
@[simp] theorem State.takeTrigger_tmPresent (s : State) : s.takeTrigger.tmPresent = s.tmPresent := rfl
@[simp] theorem State.takeTrigger_mode (s : State) : s.takeTrigger.mode = s.mode := rfl
@[simp] theorem State.takeTrigger_cnt (s : State) : s.takeTrigger.cnt = s.cnt := rfl
@[simp] theorem State.takeTrigger_port (s : State) : s.takeTrigger.port = s.port := rfl
@[simp] theorem State.takeTrigger_prevSel (s : State) : s.takeTrigger.prevSel = s.prevSel := rfl
@[simp] theorem State.takeTrigger_srClk (s : State) : s.takeTrigger.srClk = s.srClk := rfl
@[simp] theorem State.takeTrigger_srLatch (s : State) : s.takeTrigger.srLatch = s.srLatch := rfl
@[simp] theorem State.takeTrigger_tmSel (s : State) : s.takeTrigger.tmSel = s.tmSel := rfl
@[simp] theorem State.takeTrigger_tmPwr (s : State) : s.takeTrigger.tmPwr = s.tmPwr := rfl

/-! ### Put a frame word -/

@[simp] theorem State.putFrame_params (s : State) (w : FrameWord) : (s.putFrame w).params = s.params := rfl
@[simp] theorem State.putFrame_lines (s : State) (w : FrameWord) : (s.putFrame w).lines = s.lines := rfl
@[simp] theorem State.putFrame_pending (s : State) (w : FrameWord) : (s.putFrame w).pending = s.pending := rfl
@[simp] theorem State.putFrame_draws (s : State) (w : FrameWord) : (s.putFrame w).draws = s.draws := rfl
@[simp] theorem State.putFrame_mem (s : State) (w : FrameWord) : (s.putFrame w).mem = s.mem := rfl
@[simp] theorem State.putFrame_srIsr (s : State) (w : FrameWord) : (s.putFrame w).srIsr = s.srIsr := rfl
@[simp] theorem State.putFrame_srRxWord (s : State) (w : FrameWord) : (s.putFrame w).srRxWord = w := rfl
@[simp] theorem State.putFrame_tmS1 (s : State) (w : FrameWord) : (s.putFrame w).tmS1 = s.tmS1 := rfl
@[simp] theorem State.putFrame_tmS2 (s : State) (w : FrameWord) : (s.putFrame w).tmS2 = s.tmS2 := rfl
@[simp] theorem State.putFrame_tmSf (s : State) (w : FrameWord) : (s.putFrame w).tmSf = s.tmSf := rfl
@[simp] theorem State.putFrame_tmSid (s : State) (w : FrameWord) : (s.putFrame w).tmSid = s.tmSid := rfl
@[simp] theorem State.putFrame_out (s : State) (w : FrameWord) : (s.putFrame w).out = s.out := rfl
@[simp] theorem State.putFrame_rdW (s : State) (w : FrameWord) : (s.putFrame w).rdW = s.rdW := rfl
@[simp] theorem State.putFrame_rdC0 (s : State) (w : FrameWord) : (s.putFrame w).rdC0 = s.rdC0 := rfl
@[simp] theorem State.putFrame_rdC1 (s : State) (w : FrameWord) : (s.putFrame w).rdC1 = s.rdC1 := rfl
@[simp] theorem State.putFrame_rdFirst (s : State) (w : FrameWord) : (s.putFrame w).rdFirst = s.rdFirst := rfl
@[simp] theorem State.putFrame_srPc (s : State) (w : FrameWord) : (s.putFrame w).srPc = s.srPc := rfl
@[simp] theorem State.putFrame_tmPc (s : State) (w : FrameWord) : (s.putFrame w).tmPc = s.tmPc := rfl
@[simp] theorem State.putFrame_rdrPc (s : State) (w : FrameWord) : (s.putFrame w).rdrPc = s.rdrPc := rfl
@[simp] theorem State.putFrame_rdrSub (s : State) (w : FrameWord) : (s.putFrame w).rdrSub = s.rdrSub := rfl
@[simp] theorem State.putFrame_beState (s : State) (w : FrameWord) : (s.putFrame w).beState = s.beState := rfl
@[simp] theorem State.putFrame_srRxValid (s : State) (w : FrameWord) : (s.putFrame w).srRxValid = true := rfl
@[simp] theorem State.putFrame_srTrig (s : State) (w : FrameWord) : (s.putFrame w).srTrig = s.srTrig := rfl
@[simp] theorem State.putFrame_ext6 (s : State) (w : FrameWord) : (s.putFrame w).ext6 = s.ext6 := rfl
@[simp] theorem State.putFrame_srOk (s : State) (w : FrameWord) : (s.putFrame w).srOk = s.srOk := rfl
@[simp] theorem State.putFrame_tmPresent (s : State) (w : FrameWord) : (s.putFrame w).tmPresent = s.tmPresent := rfl
@[simp] theorem State.putFrame_mode (s : State) (w : FrameWord) : (s.putFrame w).mode = s.mode := rfl
@[simp] theorem State.putFrame_cnt (s : State) (w : FrameWord) : (s.putFrame w).cnt = s.cnt := rfl
@[simp] theorem State.putFrame_port (s : State) (w : FrameWord) : (s.putFrame w).port = s.port := rfl
@[simp] theorem State.putFrame_prevSel (s : State) (w : FrameWord) : (s.putFrame w).prevSel = s.prevSel := rfl
@[simp] theorem State.putFrame_srClk (s : State) (w : FrameWord) : (s.putFrame w).srClk = s.srClk := rfl
@[simp] theorem State.putFrame_srLatch (s : State) (w : FrameWord) : (s.putFrame w).srLatch = s.srLatch := rfl
@[simp] theorem State.putFrame_tmSel (s : State) (w : FrameWord) : (s.putFrame w).tmSel = s.tmSel := rfl
@[simp] theorem State.putFrame_tmPwr (s : State) (w : FrameWord) : (s.putFrame w).tmPwr = s.tmPwr := rfl

/-! ### Take the frame word -/

@[simp] theorem State.takeFrame_params (s : State) : s.takeFrame.params = s.params := rfl
@[simp] theorem State.takeFrame_lines (s : State) : s.takeFrame.lines = s.lines := rfl
@[simp] theorem State.takeFrame_pending (s : State) : s.takeFrame.pending = s.pending := rfl
@[simp] theorem State.takeFrame_draws (s : State) : s.takeFrame.draws = s.draws := rfl
@[simp] theorem State.takeFrame_mem (s : State) : s.takeFrame.mem = s.mem := rfl
@[simp] theorem State.takeFrame_srIsr (s : State) : s.takeFrame.srIsr = s.srIsr := rfl
@[simp] theorem State.takeFrame_srRxWord (s : State) : s.takeFrame.srRxWord = s.srRxWord := rfl
@[simp] theorem State.takeFrame_tmS1 (s : State) : s.takeFrame.tmS1 = s.tmS1 := rfl
@[simp] theorem State.takeFrame_tmS2 (s : State) : s.takeFrame.tmS2 = s.tmS2 := rfl
@[simp] theorem State.takeFrame_tmSf (s : State) : s.takeFrame.tmSf = s.tmSf := rfl
@[simp] theorem State.takeFrame_tmSid (s : State) : s.takeFrame.tmSid = s.tmSid := rfl
@[simp] theorem State.takeFrame_out (s : State) : s.takeFrame.out = s.out := rfl
@[simp] theorem State.takeFrame_rdW (s : State) : s.takeFrame.rdW = s.srRxWord := rfl
@[simp] theorem State.takeFrame_rdC0 (s : State) : s.takeFrame.rdC0 = s.rdC0 := rfl
@[simp] theorem State.takeFrame_rdC1 (s : State) : s.takeFrame.rdC1 = s.rdC1 := rfl
@[simp] theorem State.takeFrame_rdFirst (s : State) : s.takeFrame.rdFirst = s.rdFirst := rfl
@[simp] theorem State.takeFrame_srPc (s : State) : s.takeFrame.srPc = s.srPc := rfl
@[simp] theorem State.takeFrame_tmPc (s : State) : s.takeFrame.tmPc = s.tmPc := rfl
@[simp] theorem State.takeFrame_rdrPc (s : State) : s.takeFrame.rdrPc = s.rdrPc := rfl
@[simp] theorem State.takeFrame_rdrSub (s : State) : s.takeFrame.rdrSub = s.rdrSub := rfl
@[simp] theorem State.takeFrame_beState (s : State) : s.takeFrame.beState = s.beState := rfl
@[simp] theorem State.takeFrame_srRxValid (s : State) : s.takeFrame.srRxValid = false := rfl
@[simp] theorem State.takeFrame_srTrig (s : State) : s.takeFrame.srTrig = s.srTrig := rfl
@[simp] theorem State.takeFrame_ext6 (s : State) : s.takeFrame.ext6 = s.ext6 := rfl
@[simp] theorem State.takeFrame_srOk (s : State) : s.takeFrame.srOk = s.srOk := rfl
@[simp] theorem State.takeFrame_tmPresent (s : State) : s.takeFrame.tmPresent = s.tmPresent := rfl
@[simp] theorem State.takeFrame_mode (s : State) : s.takeFrame.mode = s.mode := rfl
@[simp] theorem State.takeFrame_cnt (s : State) : s.takeFrame.cnt = s.cnt := rfl
@[simp] theorem State.takeFrame_port (s : State) : s.takeFrame.port = s.port := rfl
@[simp] theorem State.takeFrame_prevSel (s : State) : s.takeFrame.prevSel = s.prevSel := rfl
@[simp] theorem State.takeFrame_srClk (s : State) : s.takeFrame.srClk = s.srClk := rfl
@[simp] theorem State.takeFrame_srLatch (s : State) : s.takeFrame.srLatch = s.srLatch := rfl
@[simp] theorem State.takeFrame_tmSel (s : State) : s.takeFrame.tmSel = s.tmSel := rfl
@[simp] theorem State.takeFrame_tmPwr (s : State) : s.takeFrame.tmPwr = s.tmPwr := rfl

/-! ### Set the input lines -/

@[simp] theorem State.setLines_params (s : State) (l : Lines) : (s.setLines l).params = s.params := rfl
@[simp] theorem State.setLines_lines (s : State) (l : Lines) : (s.setLines l).lines = l := rfl
@[simp] theorem State.setLines_pending (s : State) (l : Lines) : (s.setLines l).pending = s.pending := rfl
@[simp] theorem State.setLines_draws (s : State) (l : Lines) : (s.setLines l).draws = s.draws := rfl
@[simp] theorem State.setLines_mem (s : State) (l : Lines) : (s.setLines l).mem = s.mem := rfl
@[simp] theorem State.setLines_srIsr (s : State) (l : Lines) : (s.setLines l).srIsr = s.srIsr := rfl
@[simp] theorem State.setLines_srRxWord (s : State) (l : Lines) : (s.setLines l).srRxWord = s.srRxWord := rfl
@[simp] theorem State.setLines_tmS1 (s : State) (l : Lines) : (s.setLines l).tmS1 = s.tmS1 := rfl
@[simp] theorem State.setLines_tmS2 (s : State) (l : Lines) : (s.setLines l).tmS2 = s.tmS2 := rfl
@[simp] theorem State.setLines_tmSf (s : State) (l : Lines) : (s.setLines l).tmSf = s.tmSf := rfl
@[simp] theorem State.setLines_tmSid (s : State) (l : Lines) : (s.setLines l).tmSid = s.tmSid := rfl
@[simp] theorem State.setLines_out (s : State) (l : Lines) : (s.setLines l).out = s.out := rfl
@[simp] theorem State.setLines_rdW (s : State) (l : Lines) : (s.setLines l).rdW = s.rdW := rfl
@[simp] theorem State.setLines_rdC0 (s : State) (l : Lines) : (s.setLines l).rdC0 = s.rdC0 := rfl
@[simp] theorem State.setLines_rdC1 (s : State) (l : Lines) : (s.setLines l).rdC1 = s.rdC1 := rfl
@[simp] theorem State.setLines_rdFirst (s : State) (l : Lines) : (s.setLines l).rdFirst = s.rdFirst := rfl
@[simp] theorem State.setLines_srPc (s : State) (l : Lines) : (s.setLines l).srPc = s.srPc := rfl
@[simp] theorem State.setLines_tmPc (s : State) (l : Lines) : (s.setLines l).tmPc = s.tmPc := rfl
@[simp] theorem State.setLines_rdrPc (s : State) (l : Lines) : (s.setLines l).rdrPc = s.rdrPc := rfl
@[simp] theorem State.setLines_rdrSub (s : State) (l : Lines) : (s.setLines l).rdrSub = s.rdrSub := rfl
@[simp] theorem State.setLines_beState (s : State) (l : Lines) : (s.setLines l).beState = s.beState := rfl
@[simp] theorem State.setLines_srRxValid (s : State) (l : Lines) : (s.setLines l).srRxValid = s.srRxValid := rfl
@[simp] theorem State.setLines_srTrig (s : State) (l : Lines) : (s.setLines l).srTrig = s.srTrig := rfl
@[simp] theorem State.setLines_ext6 (s : State) (l : Lines) : (s.setLines l).ext6 = s.ext6 := rfl
@[simp] theorem State.setLines_srOk (s : State) (l : Lines) : (s.setLines l).srOk = s.srOk := rfl
@[simp] theorem State.setLines_tmPresent (s : State) (l : Lines) : (s.setLines l).tmPresent = s.tmPresent := rfl
@[simp] theorem State.setLines_mode (s : State) (l : Lines) : (s.setLines l).mode = s.mode := rfl
@[simp] theorem State.setLines_cnt (s : State) (l : Lines) : (s.setLines l).cnt = s.cnt := rfl
@[simp] theorem State.setLines_port (s : State) (l : Lines) : (s.setLines l).port = s.port := rfl
@[simp] theorem State.setLines_prevSel (s : State) (l : Lines) : (s.setLines l).prevSel = s.prevSel := rfl
@[simp] theorem State.setLines_srClk (s : State) (l : Lines) : (s.setLines l).srClk = s.srClk := rfl
@[simp] theorem State.setLines_srLatch (s : State) (l : Lines) : (s.setLines l).srLatch = s.srLatch := rfl
@[simp] theorem State.setLines_tmSel (s : State) (l : Lines) : (s.setLines l).tmSel = s.tmSel := rfl
@[simp] theorem State.setLines_tmPwr (s : State) (l : Lines) : (s.setLines l).tmPwr = s.tmPwr := rfl

/-! ### Draw `rd_first` -/

@[simp] theorem State.drawFirst_params (s : State) : s.drawFirst.params = s.params := rfl
@[simp] theorem State.drawFirst_lines (s : State) : s.drawFirst.lines = s.lines := rfl
@[simp] theorem State.drawFirst_pending (s : State) : s.drawFirst.pending = s.pending := rfl
@[simp] theorem State.drawFirst_draws (s : State) : s.drawFirst.draws = s.draws + 1 := rfl
@[simp] theorem State.drawFirst_mem (s : State) : s.drawFirst.mem = s.mem := rfl
@[simp] theorem State.drawFirst_srIsr (s : State) : s.drawFirst.srIsr = s.srIsr := rfl
@[simp] theorem State.drawFirst_srRxWord (s : State) : s.drawFirst.srRxWord = s.srRxWord := rfl
@[simp] theorem State.drawFirst_tmS1 (s : State) : s.drawFirst.tmS1 = s.tmS1 := rfl
@[simp] theorem State.drawFirst_tmS2 (s : State) : s.drawFirst.tmS2 = s.tmS2 := rfl
@[simp] theorem State.drawFirst_tmSf (s : State) : s.drawFirst.tmSf = s.tmSf := rfl
@[simp] theorem State.drawFirst_tmSid (s : State) : s.drawFirst.tmSid = s.tmSid := rfl
@[simp] theorem State.drawFirst_out (s : State) : s.drawFirst.out = s.out := rfl
@[simp] theorem State.drawFirst_rdW (s : State) : s.drawFirst.rdW = s.rdW := rfl
@[simp] theorem State.drawFirst_rdC0 (s : State) : s.drawFirst.rdC0 = s.rdC0 := rfl
@[simp] theorem State.drawFirst_rdC1 (s : State) : s.drawFirst.rdC1 = s.rdC1 := rfl
@[simp] theorem State.drawFirst_rdFirst (s : State) : s.drawFirst.rdFirst = Config.rdFirst s.draws := rfl
@[simp] theorem State.drawFirst_srPc (s : State) : s.drawFirst.srPc = s.srPc := rfl
@[simp] theorem State.drawFirst_tmPc (s : State) : s.drawFirst.tmPc = s.tmPc := rfl
@[simp] theorem State.drawFirst_rdrPc (s : State) : s.drawFirst.rdrPc = s.rdrPc := rfl
@[simp] theorem State.drawFirst_rdrSub (s : State) : s.drawFirst.rdrSub = s.rdrSub := rfl
@[simp] theorem State.drawFirst_beState (s : State) : s.drawFirst.beState = s.beState := rfl
@[simp] theorem State.drawFirst_srRxValid (s : State) : s.drawFirst.srRxValid = s.srRxValid := rfl
@[simp] theorem State.drawFirst_srTrig (s : State) : s.drawFirst.srTrig = s.srTrig := rfl
@[simp] theorem State.drawFirst_ext6 (s : State) : s.drawFirst.ext6 = s.ext6 := rfl
@[simp] theorem State.drawFirst_srOk (s : State) : s.drawFirst.srOk = s.srOk := rfl
@[simp] theorem State.drawFirst_tmPresent (s : State) : s.drawFirst.tmPresent = s.tmPresent := rfl
@[simp] theorem State.drawFirst_mode (s : State) : s.drawFirst.mode = s.mode := rfl
@[simp] theorem State.drawFirst_cnt (s : State) : s.drawFirst.cnt = s.cnt := rfl
@[simp] theorem State.drawFirst_port (s : State) : s.drawFirst.port = s.port := rfl
@[simp] theorem State.drawFirst_prevSel (s : State) : s.drawFirst.prevSel = s.prevSel := rfl
@[simp] theorem State.drawFirst_srClk (s : State) : s.drawFirst.srClk = s.srClk := rfl
@[simp] theorem State.drawFirst_srLatch (s : State) : s.drawFirst.srLatch = s.srLatch := rfl
@[simp] theorem State.drawFirst_tmSel (s : State) : s.drawFirst.tmSel = s.tmSel := rfl
@[simp] theorem State.drawFirst_tmPwr (s : State) : s.drawFirst.tmPwr = s.tmPwr := rfl

/-! ### A clock slot -/

@[simp] theorem State.clockSlot_params (s : State) : s.clockSlot.params = s.params := rfl
@[simp] theorem State.clockSlot_lines (s : State) : s.clockSlot.lines = s.lines := rfl
@[simp] theorem State.clockSlot_pending (s : State) : s.clockSlot.pending = s.pending := rfl
@[simp] theorem State.clockSlot_draws (s : State) : s.clockSlot.draws = s.draws := rfl
@[simp] theorem State.clockSlot_mem (s : State) : s.clockSlot.mem = s.mem := rfl
@[simp] theorem State.clockSlot_srIsr (s : State) : s.clockSlot.srIsr = shiftIn s.srIsr s.lines.srDin := rfl
@[simp] theorem State.clockSlot_srRxWord (s : State) : s.clockSlot.srRxWord = s.srRxWord := rfl
@[simp] theorem State.clockSlot_tmS1 (s : State) : s.clockSlot.tmS1 = s.tmS1 := rfl
@[simp] theorem State.clockSlot_tmS2 (s : State) : s.clockSlot.tmS2 = s.tmS2 := rfl
@[simp] theorem State.clockSlot_tmSf (s : State) : s.clockSlot.tmSf = s.tmSf := rfl
@[simp] theorem State.clockSlot_tmSid (s : State) : s.clockSlot.tmSid = s.tmSid := rfl
@[simp] theorem State.clockSlot_out (s : State) : s.clockSlot.out = s.out := rfl
@[simp] theorem State.clockSlot_rdW (s : State) : s.clockSlot.rdW = s.rdW := rfl
@[simp] theorem State.clockSlot_rdC0 (s : State) : s.clockSlot.rdC0 = s.rdC0 := rfl
@[simp] theorem State.clockSlot_rdC1 (s : State) : s.clockSlot.rdC1 = s.rdC1 := rfl
@[simp] theorem State.clockSlot_rdFirst (s : State) : s.clockSlot.rdFirst = s.rdFirst := rfl
@[simp] theorem State.clockSlot_srPc (s : State) : s.clockSlot.srPc = s.srPc := rfl
@[simp] theorem State.clockSlot_tmPc (s : State) : s.clockSlot.tmPc = s.tmPc := rfl
@[simp] theorem State.clockSlot_rdrPc (s : State) : s.clockSlot.rdrPc = s.rdrPc := rfl
@[simp] theorem State.clockSlot_rdrSub (s : State) : s.clockSlot.rdrSub = s.rdrSub := rfl
@[simp] theorem State.clockSlot_beState (s : State) : s.clockSlot.beState = s.beState := rfl
@[simp] theorem State.clockSlot_srRxValid (s : State) : s.clockSlot.srRxValid = s.srRxValid := rfl
@[simp] theorem State.clockSlot_srTrig (s : State) : s.clockSlot.srTrig = s.srTrig := rfl
@[simp] theorem State.clockSlot_ext6 (s : State) : s.clockSlot.ext6 = s.ext6 := rfl
@[simp] theorem State.clockSlot_srOk (s : State) : s.clockSlot.srOk = s.srOk := rfl
@[simp] theorem State.clockSlot_tmPresent (s : State) : s.clockSlot.tmPresent = s.tmPresent := rfl
@[simp] theorem State.clockSlot_mode (s : State) : s.clockSlot.mode = s.mode := rfl
@[simp] theorem State.clockSlot_cnt (s : State) : s.clockSlot.cnt = s.cnt := rfl
@[simp] theorem State.clockSlot_port (s : State) : s.clockSlot.port = s.port := rfl
@[simp] theorem State.clockSlot_prevSel (s : State) : s.clockSlot.prevSel = s.prevSel := rfl
@[simp] theorem State.clockSlot_srClk (s : State) : s.clockSlot.srClk = s.params.srClkIdle := rfl
@[simp] theorem State.clockSlot_srLatch (s : State) : s.clockSlot.srLatch = s.srLatch := rfl
@[simp] theorem State.clockSlot_tmSel (s : State) : s.clockSlot.tmSel = s.tmSel := rfl
@[simp] theorem State.clockSlot_tmPwr (s : State) : s.clockSlot.tmPwr = s.tmPwr := rfl

/-! ### A counted transition -/

@[simp] theorem State.edge_params (s : State) (e : Bool) : (s.edge e).params = s.params := rfl
@[simp] theorem State.edge_lines (s : State) (e : Bool) : (s.edge e).lines = s.lines := rfl
@[simp] theorem State.edge_pending (s : State) (e : Bool) : (s.edge e).pending = s.pending := rfl
@[simp] theorem State.edge_draws (s : State) (e : Bool) : (s.edge e).draws = s.draws := rfl
@[simp] theorem State.edge_mem (s : State) (e : Bool) : (s.edge e).mem = s.mem := rfl
@[simp] theorem State.edge_srIsr (s : State) (e : Bool) : (s.edge e).srIsr = s.srIsr := rfl
@[simp] theorem State.edge_srRxWord (s : State) (e : Bool) : (s.edge e).srRxWord = s.srRxWord := rfl
@[simp] theorem State.edge_tmS1 (s : State) (e : Bool) : (s.edge e).tmS1 = s.tmS1 := rfl
@[simp] theorem State.edge_tmS2 (s : State) (e : Bool) : (s.edge e).tmS2 = s.tmS2 := rfl
@[simp] theorem State.edge_tmSf (s : State) (e : Bool) : (s.edge e).tmSf = s.tmSf := rfl
@[simp] theorem State.edge_tmSid (s : State) (e : Bool) : (s.edge e).tmSid = s.tmSid := rfl
@[simp] theorem State.edge_out (s : State) (e : Bool) : (s.edge e).out = s.out := rfl
@[simp] theorem State.edge_rdW (s : State) (e : Bool) : (s.edge e).rdW = s.rdW := rfl
@[simp] theorem State.edge_rdC0 (s : State) (e : Bool) : (s.edge e).rdC0 = s.rdC0 := rfl
@[simp] theorem State.edge_rdC1 (s : State) (e : Bool) : (s.edge e).rdC1 = s.rdC1 := rfl
@[simp] theorem State.edge_rdFirst (s : State) (e : Bool) : (s.edge e).rdFirst = s.rdFirst := rfl
@[simp] theorem State.edge_srPc (s : State) (e : Bool) : (s.edge e).srPc = s.srPc := rfl
@[simp] theorem State.edge_tmPc (s : State) (e : Bool) : (s.edge e).tmPc = s.tmPc := rfl
@[simp] theorem State.edge_rdrPc (s : State) (e : Bool) : (s.edge e).rdrPc = s.rdrPc := rfl
@[simp] theorem State.edge_rdrSub (s : State) (e : Bool) : (s.edge e).rdrSub = s.rdrSub := rfl
@[simp] theorem State.edge_beState (s : State) (e : Bool) : (s.edge e).beState = .addressing := rfl
@[simp] theorem State.edge_srRxValid (s : State) (e : Bool) : (s.edge e).srRxValid = s.srRxValid := rfl
@[simp] theorem State.edge_srTrig (s : State) (e : Bool) : (s.edge e).srTrig = s.srTrig := rfl
@[simp] theorem State.edge_ext6 (s : State) (e : Bool) : (s.edge e).ext6 = s.ext6 := rfl
@[simp] theorem State.edge_srOk (s : State) (e : Bool) : (s.edge e).srOk = s.srOk := rfl
@[simp] theorem State.edge_tmPresent (s : State) (e : Bool) : (s.edge e).tmPresent = s.tmPresent := rfl
@[simp] theorem State.edge_mode (s : State) (e : Bool) : (s.edge e).mode = s.mode := rfl
@[simp] theorem State.edge_cnt (s : State) (e : Bool) : (s.edge e).cnt = countEdge s.params s.cnt := rfl
@[simp] theorem State.edge_port (s : State) (e : Bool) : (s.edge e).port = portOf (countEdge s.params s.cnt) := rfl
@[simp] theorem State.edge_prevSel (s : State) (e : Bool) : (s.edge e).prevSel = e := rfl
@[simp] theorem State.edge_srClk (s : State) (e : Bool) : (s.edge e).srClk = s.srClk := rfl
@[simp] theorem State.edge_srLatch (s : State) (e : Bool) : (s.edge e).srLatch = s.srLatch := rfl
@[simp] theorem State.edge_tmSel (s : State) (e : Bool) : (s.edge e).tmSel = s.tmSel := rfl
@[simp] theorem State.edge_tmPwr (s : State) (e : Bool) : (s.edge e).tmPwr = s.tmPwr := rfl

/-! ### Drive an output line -/

@[simp] theorem State.drive_params (s : State) (d : Drive) : (s.drive d).params = s.params := by cases d <;> rfl
@[simp] theorem State.drive_lines (s : State) (d : Drive) : (s.drive d).lines = s.lines := by cases d <;> rfl
@[simp] theorem State.drive_pending (s : State) (d : Drive) : (s.drive d).pending = s.pending := by cases d <;> rfl
@[simp] theorem State.drive_draws (s : State) (d : Drive) : (s.drive d).draws = s.draws := by cases d <;> rfl
@[simp] theorem State.drive_mem (s : State) (d : Drive) : (s.drive d).mem = s.mem := by cases d <;> rfl
@[simp] theorem State.drive_srIsr (s : State) (d : Drive) : (s.drive d).srIsr = s.srIsr := by cases d <;> rfl
@[simp] theorem State.drive_srRxWord (s : State) (d : Drive) : (s.drive d).srRxWord = s.srRxWord := by cases d <;> rfl
@[simp] theorem State.drive_tmS1 (s : State) (d : Drive) : (s.drive d).tmS1 = s.tmS1 := by cases d <;> rfl
@[simp] theorem State.drive_tmS2 (s : State) (d : Drive) : (s.drive d).tmS2 = s.tmS2 := by cases d <;> rfl
@[simp] theorem State.drive_tmSf (s : State) (d : Drive) : (s.drive d).tmSf = s.tmSf := by cases d <;> rfl
@[simp] theorem State.drive_tmSid (s : State) (d : Drive) : (s.drive d).tmSid = s.tmSid := by cases d <;> rfl
@[simp] theorem State.drive_rdW (s : State) (d : Drive) : (s.drive d).rdW = s.rdW := by cases d <;> rfl
@[simp] theorem State.drive_rdC0 (s : State) (d : Drive) : (s.drive d).rdC0 = s.rdC0 := by cases d <;> rfl
@[simp] theorem State.drive_rdC1 (s : State) (d : Drive) : (s.drive d).rdC1 = s.rdC1 := by cases d <;> rfl
@[simp] theorem State.drive_rdFirst (s : State) (d : Drive) : (s.drive d).rdFirst = s.rdFirst := by cases d <;> rfl
@[simp] theorem State.drive_srPc (s : State) (d : Drive) : (s.drive d).srPc = s.srPc := by cases d <;> rfl
@[simp] theorem State.drive_tmPc (s : State) (d : Drive) : (s.drive d).tmPc = s.tmPc := by cases d <;> rfl
@[simp] theorem State.drive_rdrPc (s : State) (d : Drive) : (s.drive d).rdrPc = s.rdrPc := by cases d <;> rfl
@[simp] theorem State.drive_rdrSub (s : State) (d : Drive) : (s.drive d).rdrSub = s.rdrSub := by cases d <;> rfl
@[simp] theorem State.drive_beState (s : State) (d : Drive) : (s.drive d).beState = s.beState := by cases d <;> rfl
@[simp] theorem State.drive_srRxValid (s : State) (d : Drive) : (s.drive d).srRxValid = s.srRxValid := by cases d <;> rfl
@[simp] theorem State.drive_srTrig (s : State) (d : Drive) : (s.drive d).srTrig = s.srTrig := by cases d <;> rfl
@[simp] theorem State.drive_ext6 (s : State) (d : Drive) : (s.drive d).ext6 = s.ext6 := by cases d <;> rfl
@[simp] theorem State.drive_srOk (s : State) (d : Drive) : (s.drive d).srOk = s.srOk := by cases d <;> rfl
@[simp] theorem State.drive_tmPresent (s : State) (d : Drive) : (s.drive d).tmPresent = s.tmPresent := by cases d <;> rfl
@[simp] theorem State.drive_mode (s : State) (d : Drive) : (s.drive d).mode = s.mode := by cases d <;> rfl
@[simp] theorem State.drive_cnt (s : State) (d : Drive) : (s.drive d).cnt = s.cnt := by cases d <;> rfl
@[simp] theorem State.drive_port (s : State) (d : Drive) : (s.drive d).port = s.port := by cases d <;> rfl
@[simp] theorem State.drive_prevSel (s : State) (d : Drive) : (s.drive d).prevSel = s.prevSel := by cases d <;> rfl
@[simp] theorem State.drive_to_srClk (s : State) (v : Bool) : s.drive (.srClk v) = { s with srClk := v } := rfl
@[simp] theorem State.drive_to_srLatch (s : State) (v : Bool) : s.drive (.srLatch v) = { s with srLatch := v } := rfl
@[simp] theorem State.drive_to_tmSel (s : State) (v : Bool) : s.drive (.tmSel v) = { s with tmSel := v } := rfl
@[simp] theorem State.drive_to_tmPwr (s : State) (v : Bool) : s.drive (.tmPwr v) = { s with tmPwr := v } := rfl
@[simp] theorem State.drive_to_out (s : State) (v : Nibble) : s.drive (.out v) = { s with out := v } := rfl

/-! ### Name a condition -/

@[simp] theorem State.raise_eq (s : State) (c : Condition) : s.raise c = s := rfl

@[simp] theorem State.raiseIf_eq (s : State) (b : Bool) (c : Condition) : s.raiseIf b c = s := by cases b <;> rfl

end Sys2Proof.Machine
end

