-- ==== Sys2Proof/Laws/Ops.lean ====
section
/-! SUPPORT. What the shared operations do: the store, the phase step, the schedule. -/

namespace Sys2Proof.Machine

/-! ### The store -/

theorem Memory.read_erase (m : Memory) (p q : Nat) :
    (Memory.erase m p).read q = if q = p then unlistedWord else Memory.read m q := by
  induction m with
  | nil => simp [Memory.erase, Memory.read]
  | cons h m ih =>
    obtain ⟨a, w⟩ := h
    by_cases hap : a = p
    · by_cases hqp : q = p
      · simpa [Memory.erase, hap, hqp] using ih
      · simpa [Memory.erase, Memory.read, hap, hqp, Ne.symm hqp] using ih
    · by_cases haq : a = q
      · subst haq
        simp [Memory.erase, Memory.read, hap]
      · simpa [Memory.erase, Memory.read, hap, haq] using ih

theorem Memory.read_insert (m : Memory) (p q : Nat) (v : SnapWord) (hn : ∀ x ∈ m, x.1 ≠ p) :
    (Memory.insert m p v).read q = if q = p then v else Memory.read m q := by
  induction m with
  | nil => simp [Memory.insert, Memory.read, eq_comm]
  | cons h m ih =>
    obtain ⟨a, w⟩ := h
    have ha : a ≠ p := hn (a, w) (by simp)
    have hn' : ∀ x ∈ m, x.1 ≠ p := fun x hx => hn x (by simp [hx])
    by_cases hpa : p < a
    · simp [Memory.insert, Memory.read, hpa, eq_comm (a := p)]
    · by_cases haq : a = q
      · subst haq
        simp [Memory.insert, Memory.read, hpa, ha]
      · simpa [Memory.insert, Memory.read, hpa, haq] using ih hn'

theorem Memory.erase_lacks (m : Memory) (p : Nat) : ∀ x ∈ Memory.erase m p, x.1 ≠ p := by
  induction m with
  | nil => simp [Memory.erase]
  | cons h m ih =>
    obtain ⟨a, w⟩ := h
    simp only [Memory.erase]
    split
    · exact ih
    · rintro x hx
      rcases List.mem_cons.1 hx with rfl | hx
      · assumption
      · exact ih x hx

/-- A read after a write gives the word written at its index and the old word elsewhere. -/
theorem Memory.read_write (m : Memory) (p q : Nat) (v : SnapWord) :
    (Memory.write m p v).read q = if q = p then v else Memory.read m q := by
  unfold Memory.write
  split
  · rw [Memory.read_erase]
    split_ifs <;> simp_all
  · rw [Memory.read_insert _ _ _ _ (Memory.erase_lacks m p), Memory.read_erase]
    split_ifs <;> rfl

theorem Memory.wfFrom_mono {lo lo' : Nat} (m : Memory) (h : lo' ≤ lo) (hm : Memory.wfFrom lo m = true) :
    Memory.wfFrom lo' m = true := by
  cases m with
  | nil => rfl
  | cons x m =>
    obtain ⟨a, w⟩ := x
    simp only [Memory.wfFrom, Bool.and_eq_true, decide_eq_true_eq] at hm ⊢
    exact ⟨⟨⟨by omega, hm.1.1.2⟩, hm.1.2⟩, hm.2⟩

theorem Memory.erase_keeps_wf (m : Memory) (lo p : Nat) (hm : Memory.wfFrom lo m = true) :
    Memory.wfFrom lo (Memory.erase m p) = true := by
  induction m generalizing lo with
  | nil => rfl
  | cons x m ih =>
    obtain ⟨a, w⟩ := x
    simp only [Memory.wfFrom, Bool.and_eq_true, decide_eq_true_eq] at hm
    simp only [Memory.erase]
    split
    · exact Memory.wfFrom_mono _ (by omega) (ih _ hm.2)
    · simp only [Memory.wfFrom, Bool.and_eq_true, decide_eq_true_eq]
      exact ⟨hm.1, ih _ hm.2⟩

theorem Memory.insert_keeps_wf (m : Memory) (lo p : Nat) (v : SnapWord) (hp : p < 2) (hlo : lo ≤ p) (hv : v ≠ unlistedWord)
    (hn : ∀ x ∈ m, x.1 ≠ p) (hm : Memory.wfFrom lo m = true) : Memory.wfFrom lo (Memory.insert m p v) = true := by
  induction m generalizing lo with
  | nil => simp [Memory.insert, Memory.wfFrom, hp, hlo, hv]
  | cons x m ih =>
    obtain ⟨a, w⟩ := x
    have ha : a ≠ p := hn (a, w) (by simp)
    have hn' : ∀ x ∈ m, x.1 ≠ p := fun x hx => hn x (by simp [hx])
    simp only [Memory.wfFrom, Bool.and_eq_true, decide_eq_true_eq] at hm
    simp only [Memory.insert]
    split
    · simp only [Memory.wfFrom, Bool.and_eq_true, decide_eq_true_eq]
      exact ⟨⟨⟨hlo, hp⟩, hv⟩, ⟨⟨⟨by omega, hm.1.1.2⟩, hm.1.2⟩, hm.2⟩⟩
    · simp only [Memory.wfFrom, Bool.and_eq_true, decide_eq_true_eq]
      exact ⟨hm.1, ih _ (by omega) hn' hm.2⟩

/-- Every write to an index of the store keeps the canonical form. -/
theorem Memory.write_keeps_wf (m : Memory) (p : Nat) (v : SnapWord) (hp : p < 2) (hm : m.wf = true) :
    (m.write p v).wf = true := by
  unfold Memory.write Memory.wf
  split
  · exact Memory.erase_keeps_wf m 0 p hm
  · exact Memory.insert_keeps_wf _ 0 p v hp (by omega) (by assumption) (Memory.erase_lacks m p)
      (Memory.erase_keeps_wf m 0 p hm)

/-- The store is canonical right after power-on. -/
theorem reset_mem_wf : State.reset.mem.wf = true := rfl

/-- An index of the store is read whole. -/
theorem memRead_of_lt (s : State) {p : Nat} (hp : p < 2) : memRead p s = some ((s.mem.read p).setWidth 12) := by
  simp [memRead, hp]

/-- An index of the store is written whole. -/
theorem memWrite_of_lt (s : State) (v : Snapshot) {p : Nat} (hp : p < 2) :
    memWrite p v s = some { s with mem := s.mem.write p (v.setWidth 16) } := by
  simp [memWrite, hp]

/-- A store access that answers goes on. -/
@[simp] theorem orNoSnapshot_some {α : Type} (a : α) (k : α → Result) : orNoSnapshot (some a) k = k a := rfl

/-- A store access that does not answer is refused. -/
@[simp] theorem orNoSnapshot_none {α : Type} (k : α → Result) :
    orNoSnapshot (none : Option α) k = .refused .noSuchSnapshot := rfl

/-- SNAP.WR targets a snapshot that exists. -/
theorem snapTarget_lt (s : State) : snapTarget s < 2 := by
  unfold snapTarget
  cases s.rdFirst <;> split <;> decide

/-! ### Sequencing of parts -/

@[simp] theorem andThen_next (s : State) (k : State → Result) : andThen (.next s) k = k s := rfl

/-- A sequence answers a next state exactly where both parts do. -/
theorem andThen_eq_next {o : Result} {k : State → Result} {t : State} :
    andThen o k = .next t ↔ ∃ s, o = .next s ∧ k s = .next t := by
  cases o <;> simp [andThen]

/-! ### The phase step -/

/-- Everything a phase operation changes (R172). -/
theorem State.phase_eq (s : State) (l : Bool) (m : Latch) : s.phase l m = { s with
    tmSel := l
    tmS1 := if m = .s1 then s.lines.tmIn else s.tmS1
    tmS2 := if m = .s2 then s.lines.tmIn else s.tmS2
    tmSf := if m = .sf then s.lines.tmIn else s.tmSf
    tmSid := if s.rdrPc = .tmDetect ∧ s.tmPc = s.params.tmIdPhase then s.lines.tmIn else s.tmSid
    tmPc := s.tmPc + 1 } := by
  by_cases h : s.rdrPc = .tmDetect ∧ s.tmPc = s.params.tmIdPhase
  · cases m <;> simp [State.phase, State.latchSample, State.latchIdent, h]
  · cases m <;> simp [State.phase, State.latchSample, State.latchIdent, h]

/-! ### The schedule -/

theorem State.takeChoice_pending (s : State) (c : Choice) (cs : List Choice) (h : s.pending = c :: cs) :
    s.takeChoice = (c, { s with pending := cs }) := by
  simp [State.takeChoice, h]

theorem State.takeChoice_free (s : State) (h : s.pending = []) :
    s.takeChoice = (Config.choice s.draws, { s with draws := s.draws + 1 }) := by
  simp [State.takeChoice, h]

end Sys2Proof.Machine
end

