-- ==== Sys2Proof/Laws/PerInstr.lean ====
section
/-! SUPPORT. Per operation: the word it encodes to matches the format, mask and value of its row of the operation table. -/

namespace Sys2Proof.Laws.RowMatch

/-- The format, mask and value of an operation's row of spec/opcode_table.json. -/
def row : Instr → Format × BitVec 4 × BitVec 4
  | .snapWr => (.opn, 0xF, 0x8)
  | .srSeqWait => (.srs, 0x7, 0x0)
  | .srSeqLatch => (.srs, 0x7, 0x4)
  | .srSeqShift => (.srs, 0x7, 0x3)
  | .srInit => (.opn, 0xF, 0x5)
  | .srPollPop => (.opn, 0xF, 0x6)
  | .srTrig => (.opn, 0xF, 0x7)
  | .tmInit => (.opn, 0xF, 0x1)
  | .tmPhS1 => (.tmp, 0x7, 0x5)
  | .tmPhS2 => (.tmp, 0x7, 0x2)
  | .tmPhHi => (.tmp, 0x7, 0x4)
  | .tmPhLo => (.tmp, 0x7, 0x0)
  | .tmPhSf => (.tmp, 0x7, 0x7)
  | .tmCommit => (.opn, 0xF, 0x4)
  | .tmDetectEnd => (.opn, 0xF, 0x3)
  | .tmProbe => (.opn, 0xF, 0x2)
  | .bootSelect => (.opn, 0xF, 0x0)
  | .beIdle _ _ => (.bew, 0x4, 0x4)
  | .beEdge _ => (.bew, 0x6, 0x2)
  | .beHold _ => (.bew, 0x6, 0x0)
  | .beOutDir _ => (.bow, 0x5, 0x1)
  | .beOutBtn _ => (.bow, 0x5, 0x0)
  | .beOutNone _ _ => (.bow, 0x4, 0x4)

/-- The operation's word is a word of its row: same format, and the row's value under the row's mask. -/
def Statement (i : Instr) : Prop :=
  WellFormed i = true → (encode i).fmt = (row i).1 ∧ (encode i).bits &&& (row i).2.1 = (row i).2.2

theorem snapWr : Statement .snapWr := fun _ => ⟨rfl, rfl⟩

theorem srSeqWait : Statement .srSeqWait := fun _ => ⟨rfl, rfl⟩

theorem srSeqLatch : Statement .srSeqLatch := fun _ => ⟨rfl, rfl⟩

theorem srSeqShift : Statement .srSeqShift := fun _ => ⟨rfl, rfl⟩

theorem srInit : Statement .srInit := fun _ => ⟨rfl, rfl⟩

theorem srPollPop : Statement .srPollPop := fun _ => ⟨rfl, rfl⟩

theorem srTrig : Statement .srTrig := fun _ => ⟨rfl, rfl⟩

theorem tmInit : Statement .tmInit := fun _ => ⟨rfl, rfl⟩

theorem tmPhS1 : Statement .tmPhS1 := fun _ => ⟨rfl, rfl⟩

theorem tmPhS2 : Statement .tmPhS2 := fun _ => ⟨rfl, rfl⟩

theorem tmPhHi : Statement .tmPhHi := fun _ => ⟨rfl, rfl⟩

theorem tmPhLo : Statement .tmPhLo := fun _ => ⟨rfl, rfl⟩

theorem tmPhSf : Statement .tmPhSf := fun _ => ⟨rfl, rfl⟩

theorem tmCommit : Statement .tmCommit := fun _ => ⟨rfl, rfl⟩

theorem tmDetectEnd : Statement .tmDetectEnd := fun _ => ⟨rfl, rfl⟩

theorem tmProbe : Statement .tmProbe := fun _ => ⟨rfl, rfl⟩

theorem bootSelect : Statement .bootSelect := fun _ => ⟨rfl, rfl⟩

theorem beIdle (d s : Bool) : Statement (.beIdle d s) := by
  cases d <;> cases s <;> exact fun _ => ⟨rfl, rfl⟩

theorem beEdge (s : Bool) : Statement (.beEdge s) := by
  cases s <;> exact fun _ => ⟨rfl, rfl⟩

theorem beHold (s : Bool) : Statement (.beHold s) := by
  cases s <;> exact fun _ => ⟨rfl, rfl⟩

theorem beOutDir (pp : BitVec 2) : Statement (.beOutDir pp) := by
  revert pp
  unfold Statement
  decide

theorem beOutBtn (pp : BitVec 2) : Statement (.beOutBtn pp) := by
  revert pp
  unfold Statement
  decide

theorem beOutNone (pp : BitVec 2) (s : Bool) : Statement (.beOutNone pp s) := by
  revert pp s
  unfold Statement
  decide

end Sys2Proof.Laws.RowMatch
end

