-- ==== Sys2Proof/Laws/Step.lean ====
section
/-! SUPPORT. What a step can do, by the chosen agent, and which operation each agent's decode word selects. -/

namespace Sys2Proof.Machine

/-- A step with a pending choice runs that choice. -/
theorem step_of_pending (s : State) (c : Choice) (cs : List Choice) (h : s.pending = c :: cs) :
    step s = runChoice exec c { s with pending := cs } := by
  simp [step, runStep, State.takeChoice_pending s c cs h]

/-- A step with no pending choice runs a free one. -/
theorem step_of_free (s : State) (h : s.pending = []) :
    step s = runChoice exec (Config.choice s.draws) { s with draws := s.draws + 1 } := by
  simp [step, runStep, State.takeChoice_free s h]

/-- A word that decodes is run. -/
theorem runWord_of_decode (run : Instr → State → Result) (w : DecodeWord) (s : State) (i : Instr) (h : decode w = .ok i) :
    runWord run w s = run i s := by
  simp [runWord, h]

theorem runSeq_of_ok (run : Instr → State → Result) (s : State) (h : s.srOk = true) :
    runSeq run s = runWord run (srsWord s) s := if_pos h

theorem runSeq_of_not_ok (run : Instr → State → Result) (s : State) (h : s.srOk = false) : runSeq run s = .next s := by
  simp [runSeq, h]

/-- The slot word is never reserved. -/
theorem decode_srsWord (s : State) : decode (srsWord s) = .ok (match s.srPc with
    | .wait => .srSeqWait
    | .latch => .srSeqLatch
    | .shift _ => .srSeqShift) := by
  unfold srsWord
  cases s.srPc <;> rfl

/-- BEW is never reserved. -/
theorem decode_bewWord (s : State) : decode (bewWord s) = .ok (
    if s.lines.en = true then .beIdle (s.lines.sel != s.prevSel) s.lines.sel
    else if s.lines.sel = s.prevSel then .beHold s.lines.sel
    else .beEdge s.lines.sel) := by
  unfold bewWord
  cases s.lines.en <;> cases s.lines.sel <;> cases s.prevSel <;> rfl

/-- BOW is never reserved. -/
theorem decode_bowWord (s : State) : decode (bowWord s) = .ok (
    if 2 ≤ s.port then .beOutNone (BitVec.ofNat 2 (min s.port 3)) s.lines.sel
    else if s.lines.sel = true then .beOutDir (BitVec.ofNat 2 s.port)
    else .beOutBtn (BitVec.ofNat 2 s.port)) := by
  unfold bowWord
  rcases s.port with _ | _ | _ | n
  · cases s.lines.sel <;> rfl
  · cases s.lines.sel <;> rfl
  · cases s.lines.sel <;> rfl
  · have h : min (n + 1 + 1 + 1) 3 = 3 := by omega
    have h2 : 2 ≤ n + 1 + 1 + 1 := by omega
    rw [h, if_pos h2]
    cases s.lines.sel <;> rfl

/-- A BE step: the operation of BEW, then the output operation (R224). -/
theorem runBe_eq (run : Instr → State → Result) (s : State) : runBe run s =
    if s.lines.en = true then
      andThen (run (.beIdle (s.lines.sel != s.prevSel) s.lines.sel) s) (fun t => run (.beOutNone 0b10#2 t.lines.sel) t)
    else if s.lines.sel = s.prevSel then andThen (run (.beHold s.lines.sel) s) (fun t => runWord run (bowWord t) t)
    else andThen (run (.beEdge s.lines.sel) s) (fun t => runWord run (bowWord t) t) := by
  unfold runBe
  rw [decode_bewWord]
  split_ifs <;> rfl

/-- The levels a word drives are those of the operation it selects. -/
theorem wordDrives_of_decode (w : DecodeWord) (s : State) (i : Instr) (h : decode w = .ok i) : wordDrives w s = drives i s := by
  simp [wordDrives, h]

/-- A BE step drives what its two operations drive, in order. -/
theorem stepDrives_be (s t : State) (i : Instr) (hd : decode (bewWord s) = .ok i) (h : exec i s = .next t) :
    stepDrives .be s = drives i s ++ outDrives i t := by
  simp [stepDrives, hd, h]

end Sys2Proof.Machine
end

