-- ==== Sys2Proof/Laws/Schedule.lean ====
section
/-! SUPPORT. Endless schedules: a step on a choice, the run that follows a schedule, and what weak fairness gives. -/

namespace Sys2Proof.Safety

open Sys2Proof.Machine

/-- A step on a choice is the step of the chosen agent, where that completes. -/
theorem stepOn_of_run (c : Choice) (s t : State) (h : runChoice exec c { s with pending := [] } = .next t) :
    stepOn c s = t := by
  have hs : step { s with pending := [c] } = .next t := (step_of_pending _ c [] rfl).trans h
  simp [stepOn, hs]

@[simp] theorem follow_zero (σ : Nat → Choice) (s : State) : follow σ s 0 = s := rfl

theorem follow_succ (σ : Nat → Choice) (s : State) (n : Nat) : follow σ s (n + 1) = stepOn (σ n) (follow σ s n) := rfl

/-- A run can be cut anywhere. -/
theorem follow_add (σ : Nat → Choice) (s : State) (n m : Nat) :
    follow σ s (n + m) = follow (fun k => σ (n + k)) (follow σ s n) m := by
  induction m with
  | zero => rfl
  | succ m ih => rw [← Nat.add_assoc, follow_succ, ih, follow_succ]

/-- What is left of a fair schedule is fair. -/
theorem WeaklyFair.tail {σ : Nat → Choice} (h : WeaklyFair σ) (n : Nat) : WeaklyFair fun k => σ (n + k) := by
  intro a k
  obtain ⟨m, hm, ha⟩ := h a (n + k)
  exact ⟨m - n, by omega, by simpa [show n + (m - n) = m by omega] using ha⟩

end Sys2Proof.Safety
end

