-- ==== Sys2Proof/Tests/Slice0.lean ====
section
/-! SUPPORT. Tests of one step each, with expected values from the examples of spec/ and from 95_test_vectors.md, and one
witness per statement that has hypotheses. -/

namespace Sys2Proof.Tests

open Sys2Proof.Machine Sys2Proof.Safety

/-- The next state of an outcome, if it is one. -/
def next? (o : Result) : Option State :=
  match o with
  | .next t => some t
  | .fault _ => none
  | .refused _ => none

/-! ### Well-formedness -/

theorem test_ill_formed_operands_are_refused :
    WellFormed (.beOutDir 2) = false ∧ WellFormed (.beOutDir 3) = false ∧ WellFormed (.beOutBtn 2) = false ∧
    WellFormed (.beOutBtn 3) = false ∧ WellFormed (.beOutNone 0 true) = false ∧ WellFormed (.beOutNone 1 false) = false := by
  decide

theorem test_well_formed_operands : WellFormed (.beOutDir 1) = true ∧ WellFormed (.beOutBtn 0) = true ∧
    WellFormed (.beOutNone 2 false) = true ∧ WellFormed (.beIdle true false) = true := by decide

theorem test_default_parameters_are_well_formed : Params.default.WellFormed = true := by decide

theorem test_ill_formed_parameters_are_refused :
    { Params.default with srPos := Vector.replicate 12 0 }.WellFormed = false ∧
    { Params.default with tmPlace := Params.default.tmPlace.set 1 (.first, 0) }.WellFormed = false ∧
    { Params.default with tmPlace := Params.default.tmPlace.set 7 (.second, 4) }.WellFormed = false ∧
    { Params.default with tmPlace := Params.default.tmPlace.set 7 (.first, 5) }.WellFormed = false ∧
    { Params.default with tmPlace := Params.default.tmPlace.set 10 (.second, 2) }.WellFormed = false ∧
    { Params.default with cntSat := 3 }.WellFormed = false ∧
    { Params.default with tmIdPhase := 11 }.WellFormed = false := by decide

/-! ### Decoding: the words of R95, R96, R97, R99 and R102 -/

theorem test_decode_boot_select : decode ⟨.opn, 0b0000⟩ = .ok .bootSelect := by decide
theorem test_decode_tm_init : decode ⟨.opn, 0b0001⟩ = .ok .tmInit := by decide
theorem test_decode_tm_probe : decode ⟨.opn, 0b0010⟩ = .ok .tmProbe := by decide
theorem test_decode_tm_detect_end : decode ⟨.opn, 0b0011⟩ = .ok .tmDetectEnd := by decide
theorem test_decode_tm_commit : decode ⟨.opn, 0b0100⟩ = .ok .tmCommit := by decide
theorem test_decode_sr_init : decode ⟨.opn, 0b0101⟩ = .ok .srInit := by decide
theorem test_decode_sr_poll_pop : decode ⟨.opn, 0b0110⟩ = .ok .srPollPop := by decide
theorem test_decode_sr_trig : decode ⟨.opn, 0b0111⟩ = .ok .srTrig := by decide
theorem test_decode_snap_wr : decode ⟨.opn, 0b1000⟩ = .ok .snapWr := by decide
theorem test_decode_tm_ph_s1 : decode ⟨.tmp, 0b101⟩ = .ok .tmPhS1 := by decide
theorem test_decode_tm_ph_s2 : decode ⟨.tmp, 0b010⟩ = .ok .tmPhS2 := by decide
theorem test_decode_tm_ph_hi : decode ⟨.tmp, 0b100⟩ = .ok .tmPhHi := by decide
theorem test_decode_tm_ph_lo : decode ⟨.tmp, 0b000⟩ = .ok .tmPhLo := by decide
theorem test_decode_tm_ph_sf : decode ⟨.tmp, 0b111⟩ = .ok .tmPhSf := by decide
theorem test_decode_sr_seq_wait : decode ⟨.srs, 0b000⟩ = .ok .srSeqWait := by decide
theorem test_decode_sr_seq_latch : decode ⟨.srs, 0b100⟩ = .ok .srSeqLatch := by decide
theorem test_decode_sr_seq_shift : decode ⟨.srs, 0b011⟩ = .ok .srSeqShift := by decide
theorem test_decode_be_idle : decode ⟨.bew, 0b110⟩ = .ok (.beIdle true false) := by decide
theorem test_decode_be_edge : decode ⟨.bew, 0b011⟩ = .ok (.beEdge true) := by decide
theorem test_decode_be_hold : decode ⟨.bew, 0b001⟩ = .ok (.beHold true) := by decide
theorem test_decode_be_out_dir : decode ⟨.bow, 0b011⟩ = .ok (.beOutDir 1) := by decide
theorem test_decode_be_out_btn : decode ⟨.bow, 0b010⟩ = .ok (.beOutBtn 1) := by decide
theorem test_decode_be_out_none : decode ⟨.bow, 0b101⟩ = .ok (.beOutNone 2 true) := by decide

/-- R98, R99, R102: the reserved words, and the word that only dispatches. -/
theorem test_decode_rejects_by_name :
    decode ⟨.tmp, 0b110⟩ = .error .reservedTmp ∧ decode ⟨.srs, 0b111⟩ = .error .reservedSrs ∧
    decode ⟨.opn, 0b1010⟩ = .error .reservedOpn ∧ decode ⟨.opn, 0b1001⟩ = .error .phaseDispatch ∧
    decode ⟨.bew, 0b1000⟩ = .error .beyondFormat := by decide

/-- The words of the operation table, read as OPN, and with a format in bits 7 to 4 (log 4). -/
theorem test_decode_table_words :
    decodeTableWord 8 0x08 = some .snapWr ∧ decodeTableWord 8 0x00 = some .bootSelect ∧
    decodeTableWord 8 0x15 = some .tmPhS1 ∧ decodeTableWord 8 0x23 = some .srSeqShift ∧
    decodeTableWord 8 0x36 = some (.beIdle true false) ∧ decodeTableWord 8 0x43 = some (.beOutDir 1) ∧
    decodeTableWord 8 0x09 = none := by decide

/-! ### A placed word is the one the next step runs (log 5) -/

theorem test_step_runs_placed_opn :
    (next? (step (State.reset.withFetchWord 8 0x05))).map (fun t => (t.srOk, t.rdrPc)) = some (true, .srLoop) := by decide

theorem test_step_runs_placed_tmp :
    (next? (step (State.reset.withFetchWord 8 0x12))).map (fun t => (t.tmS2, t.tmPc)) = some (0b111111#6, 2) := by decide

theorem test_step_runs_placed_srs :
    (next? (step (State.reset.withFetchWord 8 0x23))).map (fun t => t.srIsr) = some 0xC0000000#32 := by decide

theorem test_step_runs_placed_bew :
    (next? (step (State.reset.withFetchWord 8 0x33))).map (fun t => (t.cnt, t.beState)) = some (1, .addressing) := by decide

theorem test_step_runs_placed_bow :
    (next? (step (State.reset.withFetchWord 8 0x43))).map (fun t => (t.port, t.prevSel)) = some (1, true) := by decide

/-! ### Operations: the examples of their rules -/

/-- R131's example, first store. -/
theorem test_snap_wr_first :
    (next? (exec .snapWr { State.reset with rdrSub := .wrA, rdC0 := 0x001, rdC1 := 0x010 })).map
      (fun t => (t.mem.read 0, t.mem.read 1, t.rdrSub)) = some (0x001#16, 0x000#16, .wrB) := by decide

/-- R131's example, second store; 95_test_vectors.md 2.1, zero-extension. -/
theorem test_snap_wr_second :
    (next? (exec .snapWr { State.reset with rdrSub := .wrB, rdC1 := 0xFFF })).map
      (fun t => (t.mem.read 0, t.mem.read 1, t.rdrSub)) = some (0x000#16, 0x0FFF#16, .chk) := by decide

/-- R142's example. -/
theorem test_sr_seq_wait :
    (next? (exec .srSeqWait { State.reset with srTrig := true })).map (fun t => (t.srPc, t.srTrig)) =
      some (.latch, false) := by decide

/-- R143's example: the latch line goes 0, 1, 0. -/
theorem test_sr_seq_latch :
    (next? (exec .srSeqLatch State.reset)).map (fun t => (t.srPc, t.srLatch)) = some (.shift 0, false) ∧
    drives .srSeqLatch State.reset = [.srLatch true, .srLatch false] := by decide

/-- 95_test_vectors.md 2.2: the second slot of the shifted sequence. -/
theorem test_sr_seq_shift :
    (next? (exec .srSeqShift { State.reset with
      srPc := .shift 1, srIsr := 0x448D159E, lines := { State.reset.lines with srDin := 0b10 } })).map
      (fun t => (t.srIsr, t.srPc)) = some (0x91234567#32, .shift 2) := by decide

/-- 95_test_vectors.md 2.2: the last slot delivers. -/
theorem test_sr_seq_shift_last :
    (next? (exec .srSeqShift { State.reset with srPc := .shift 15, srIsr := 0xFFFFFFE4 })).map
      (fun t => (t.srRxWord, t.srRxValid, t.srPc)) = some (0xFFFFFFF9#32, true, .wait) := by decide

/-- R145's example. -/
theorem test_sr_init :
    (next? (exec .srInit State.reset)).map (fun t => (t.srOk, t.srTrig, t.rdrPc)) = some (true, true, .srLoop) := by decide

/-- 95_test_vectors.md 2.2: SR.INIT without the sequencer. -/
theorem test_sr_init_fails :
    (next? (exec .srInit { State.reset with params := { Params.default with seqAvailable := false } })).map
      (fun t => (t.srOk, t.srTrig, t.rdrPc)) = some (false, false, .srLoop) := by decide

/-- R146's example. -/
theorem test_sr_poll_pop :
    (next? (exec .srPollPop { State.reset with srRxValid := true, srRxWord := 0xFFFEFE7F })).map
      (fun t => (t.rdW, t.srRxValid, t.rdrSub)) = some (0xFFFEFE7F#32, false, .trig) := by decide

/-- R147's example. -/
theorem test_sr_trig :
    (next? (exec .srTrig { State.reset with rdW := 0xFFFEFE7F })).map (fun t => (t.rdC0, t.rdC1, t.srTrig, t.rdrSub)) =
      some (0x011#12, 0x080#12, true, .wrA) := by decide

/-- 95_test_vectors.md 2.2: only positions 12 to 15 low. -/
theorem test_sr_trig_masks :
    (next? (exec .srTrig { State.reset with rdW := 0x00FFFFFF })).map (fun t => (t.rdC0, t.rdC1)) =
      some (0x000#12, 0x000#12) := by decide

/-- R171's example. -/
theorem test_tm_init :
    (next? (exec .tmInit State.reset)).map (fun t => (t.tmSel, t.tmPwr, t.rdrPc)) = some (true, true, .tmProbe) := by decide

/-- R173's example. -/
theorem test_tm_ph_s1 :
    (next? (exec .tmPhS1 { State.reset with lines := { State.reset.lines with tmIn := 0b101110 } })).map
      (fun t => (t.tmS1, t.tmSel, t.tmPc)) = some (0b101110#6, true, 1) := by decide

/-- R174's example. -/
theorem test_tm_ph_s2 :
    (next? (exec .tmPhS2 { State.reset with tmPc := 1, lines := { State.reset.lines with tmIn := 0b011111 } })).map
      (fun t => (t.tmS2, t.tmSel, t.tmPc)) = some (0b011111#6, false, 2) := by decide

/-- R175's example. -/
theorem test_tm_ph_hi :
    (next? (exec .tmPhHi { State.reset with tmPc := 2 })).map (fun t => (t.tmSel, t.tmPc)) = some (true, 3) := by decide

/-- R176's example: the identification sample of the detection pass. -/
theorem test_tm_ph_lo_identifies :
    (next? (exec .tmPhLo { State.reset with
      rdrPc := .tmDetect, tmPc := 5, lines := { State.reset.lines with tmIn := 0b110000 } })).map
      (fun t => (t.tmSel, t.tmSid, t.tmPc)) = some (false, 0b110000#6, 6) := by decide

/-- R176: in an ordinary poll the same step samples nothing. -/
theorem test_tm_ph_lo_is_silent :
    (next? (exec .tmPhLo { State.reset with
      rdrPc := .tmLoop, tmPc := 5, lines := { State.reset.lines with tmIn := 0b110000 } })).map
      (fun t => (t.tmSid, t.tmS1, t.tmS2, t.tmSf)) = some (0#6, 0#6, 0#6, 0#6) := by decide

/-- R177's example. -/
theorem test_tm_ph_sf :
    (next? (exec .tmPhSf { State.reset with tmPc := 10, lines := { State.reset.lines with tmIn := 0b111110 } })).map
      (fun t => (t.tmSf, t.tmSel, t.tmPc)) = some (0b111110#6, true, 11) := by decide

/-- R179's example, extended. -/
theorem test_tm_commit_extended :
    (next? (exec .tmCommit { State.reset with tmS1 := 0b101110, tmS2 := 0b011111, tmSf := 0b111110, ext6 := true })).map
      (fun t => t.mem.read 0) = some 0x1A1#16 := by decide

/-- R179's example, not extended. -/
theorem test_tm_commit_plain :
    (next? (exec .tmCommit { State.reset with tmS1 := 0b101110, tmS2 := 0b011111, tmSf := 0b111110 })).map
      (fun t => t.mem.read 0) = some 0x0A1#16 := by decide

/-- R183's example, extended. -/
theorem test_tm_detect_end :
    (next? (exec .tmDetectEnd { State.reset with tmSid := 0b110000 })).map (fun t => (t.ext6, t.rdrPc)) =
      some (true, .tmLoop) := by decide

/-- R183's example, not extended. -/
theorem test_tm_detect_end_plain :
    (next? (exec .tmDetectEnd { State.reset with tmSid := 0b110011 })).map (fun t => t.ext6) = some false := by decide

/-- R201's examples: a probed line low. -/
theorem test_tm_probe_finds :
    (next? (exec .tmProbe { State.reset with lines := { State.reset.lines with tmIn := 0b011111 } })).map
      (fun t => t.tmPresent) = some true := by decide

/-- R201's examples: only data lines low. -/
theorem test_tm_probe_misses :
    (next? (exec .tmProbe { State.reset with lines := { State.reset.lines with tmIn := 0b110000 } })).map
      (fun t => t.tmPresent) = some false := by decide

/-- R202's example. -/
theorem test_boot_select :
    (next? (exec .bootSelect State.reset)).map (fun t => (t.mode, t.rdrPc)) = some (.sr, .srInit) := by decide

/-- 95_test_vectors.md 2.4. -/
theorem test_boot_select_tm :
    (next? (exec .bootSelect { State.reset with tmPresent := true })).map (fun t => (t.mode, t.rdrPc)) =
      some (.tm, .tmDetect) := by decide

/-- R217's example, with the output of the whole step. -/
theorem test_be_idle :
    (next? (step { State.reset with
      cnt := 3, port := 1, pending := [.be], lines := { State.reset.lines with en := true, sel := false } })).map
      (fun t => (t.cnt, t.port, t.prevSel, t.out)) = some (0, 0, false, 0b1111#4) := by decide

/-- R218's example. -/
theorem test_be_edge :
    (next? (exec (.beEdge true) { State.reset with cnt := 1 })).map (fun t => (t.cnt, t.port, t.prevSel)) =
      some (2, 1, true) := by decide

/-- R218: the counter saturates. -/
theorem test_be_edge_saturates :
    (next? (exec (.beEdge false) { State.reset with cnt := 4, port := 2 })).map (fun t => (t.cnt, t.port, t.prevSel)) =
      some (4, 2, false) := by decide

/-- R219's example. -/
theorem test_be_hold :
    (next? (exec (.beHold true) { State.reset with cnt := 2, port := 1, prevSel := true })).map
      (fun t => (t.cnt, t.port, t.prevSel, t.beState)) = some (2, 1, true, .addressing) := by decide

/-- R221's example. -/
theorem test_be_out_dir :
    (next? (exec (.beOutDir 0) { State.reset with mem := [(0, 0x011)] })).map (fun t => t.out) = some 0b1110#4 := by decide

/-- R222's example. -/
theorem test_be_out_btn :
    (next? (exec (.beOutBtn 1) { State.reset with mem := [(1, 0x080)] })).map (fun t => t.out) = some 0b0111#4 := by decide

/-- R223's example, as a whole step. -/
theorem test_be_out_none :
    (next? (step { State.reset with
      cnt := 4, port := 2, prevSel := true, pending := [.be], mem := [(0, 0x00F)],
      lines := { State.reset.lines with en := false, sel := true } })).map (fun t => t.out) = some 0b1111#4 := by decide

/-! ### Witnesses: states and operands that meet the hypotheses of the statements -/

/-- The invariant from its decidable parts, where the store lists nothing. -/
theorem inv_of_empty_store (s : State) (hm : s.mem = [])
    (h : (s.port = s.cnt / 2 ∧ s.cnt ≤ s.params.cntSat ∧ tokens s ≤ 1 ∧ s.tmPc ≤ nPh s.params) ∧
      (s.srOk = false → s.srPc = .wait ∧ s.srTrig = false ∧ s.srRxValid = false) ∧
      (s.rdrPc ≠ .tmDetect → s.rdrPc ≠ .tmLoop → s.tmPc = 0) ∧
      (s.srOk = true → s.rdrPc = .srLoop) ∧ (s.rdrSub ≠ .chk → s.srOk = true) ∧
      (s.mode = .boot ↔ s.rdrPc = .tmInit ∨ s.rdrPc = .tmProbe ∨ s.rdrPc = .select) ∧
      (s.mode = .tm ↔ s.rdrPc = .tmDetect ∨ s.rdrPc = .tmLoop)) : Inv s := by
  obtain ⟨⟨h1, h2, h3, h4⟩, h5, h6, h7, h8, h9, h10⟩ := h
  exact ⟨h1, h2, by rw [hm]; rfl, by simp [hm, Memory.read, unlistedWord], h3, h5, h4, h6, h7, h8, h9, h10,
    by simp [hm, Memory.read, unlistedWord], fun _ _ => hm⟩

/-- A block in the shift-register loop whose frame stands at a given slot. -/
def inFrame (k : Fin 16) : State :=
  { State.reset with mode := .sr, rdrPc := .srLoop, srOk := true, srPc := .shift k }

/-- A block in the toggle-multiplex poll at a given phase. -/
def inPoll (i : Nat) : State :=
  { State.reset with mode := .tm, rdrPc := .tmLoop, tmPc := i }

/-- A block whose probe and acquisition failed. -/
def degraded : State :=
  { State.reset with mode := .sr, rdrPc := .srLoop }

theorem test_witness_decode_of_encode : WellFormed (.beOutDir 1) = true ∧ WellFormed (.beOutNone 3 true) = true := by decide

theorem test_witness_encode_of_decode : decode ⟨.bow, 0b111⟩ = .ok (.beOutNone 3 true) := by decide

theorem test_witness_reserved_phase_words : (0b110#4).toNat < 8 ∧ (0b111#4).toNat < 8 ∧ 0b111#4 ∈ phaseTable 0 := by decide

theorem test_witness_phase_table_shape : (0 < 1) ∧ (phaseTable 1)[3]? = some 0b000#4 := by decide

theorem test_witness_step_env : { State.reset with pending := [.env State.reset.lines] }.pending =
    .env State.reset.lines :: [] := by decide

theorem test_witness_step_rdr : { State.reset with pending := [.rdr] }.pending = .rdr :: [] ∧
    decode (rdrWord { State.reset with pending := [] }) = .ok .tmInit := by decide

theorem test_witness_step_rdr_phase : decode (rdrWord (inPoll 0)) = .ok .tmPhS1 ∧
    decode (rdrWord (inPoll 10)) = .ok .tmPhSf ∧ decode (rdrWord (inPoll 11)) = .ok .tmCommit := by decide

theorem test_witness_step_seq : { inFrame 15 with pending := [.seq] }.pending = .seq :: [] ∧ (inFrame 15).srOk = true ∧
    decode (srsWord (inFrame 15)) = .ok .srSeqShift := by decide

theorem test_witness_step_seq_stalled : { State.reset with pending := [.seq] }.pending = .seq :: [] ∧
    State.reset.srOk = false := by decide

theorem test_witness_bus_step_idle : decode (bewWord State.reset) = .ok (.beIdle true true) ∧
    State.reset.lines.en = true ∧
    next? (exec (.beIdle true true) State.reset) = some { State.reset with prevSel := true } := by decide

theorem test_witness_bus_step_addressed :
    decode (bewWord { State.reset with lines := { State.reset.lines with en := false } }) = .ok (.beEdge true) ∧
    decode (bowWord { State.reset with port := 2 }) = .ok (.beOutNone 2 true) ∧
    decode (bowWord { State.reset with port := 1 }) = .ok (.beOutDir 1) := by decide

theorem test_witness_free_schedule : State.reset.pending = [] := by decide

theorem test_witness_slot_word : State.reset.srPc = .wait ∧ { State.reset with srPc := .latch }.srPc = .latch ∧
    (inFrame 15).srPc = .shift 15 := by decide

theorem test_witness_operation_number : (inPoll 11).tmPc ≤ nPh (inPoll 11).params ∧ opnBits (inPoll 11) ≠ 0b1001#4 ∧
    (inPoll 10).tmPc ≤ nPh (inPoll 10).params ∧ opnBits (inPoll 10) = 0b1001#4 := by decide

theorem test_witness_shift_slot : (inFrame 15).srPc = .shift 15 ∧ (inFrame 15).srRxValid = false ∧
    { inFrame 0 with srRxValid := true }.srPc = .shift 0 := by decide

theorem test_witness_full_queue : { inFrame 15 with srRxValid := true }.srPc = .shift 15 ∧
    { inFrame 15 with srRxValid := true }.srRxValid = true := by decide

theorem test_witness_shift_outside : State.reset.srPc = .wait ∧ { State.reset with srPc := .latch }.srPc = .latch := by decide

theorem test_witness_frame :
    (List.replicate 16 0b10#2).length = 16 ∧
    ∃ s : State, s.srOk = true ∧ s.srPc = .wait ∧ s.srTrig = true ∧ s.srRxValid = false ∧
      s.pending = seqFrame State.reset.lines (List.replicate 16 0b10#2) ++ [.be] :=
  ⟨rfl, { degraded with
    srOk := true, srTrig := true, pending := seqFrame State.reset.lines (List.replicate 16 0b10#2) ++ [.be] },
    rfl, rfl, rfl, rfl, rfl⟩

theorem test_witness_slots_left : Inv { inFrame 15 with pending := [.seq] } ∧
    0 < slotsLeft { inFrame 15 with pending := [.seq] } ∧ slotsLeft { inFrame 15 with pending := [.seq] } = 1 :=
  ⟨inv_of_empty_store _ rfl (by decide), by decide, by decide⟩

theorem test_witness_slots_left_triggered : Inv { degraded with srOk := true, srTrig := true, pending := [.rdr] } ∧
    slotsLeft { degraded with srOk := true, srTrig := true, pending := [.rdr] } = 18 :=
  ⟨inv_of_empty_store _ rfl (by decide), by decide⟩

/-- A schedule that lets SEQ, RDR and BE step in turn. -/
def roundRobin (n : Nat) : Choice :=
  if n % 3 = 0 then .seq else if n % 3 = 1 then .rdr else .be

theorem round_robin_is_fair : WeaklyFair roundRobin := by
  intro a n
  cases a with
  | seq => exact ⟨3 * n, by omega, by simp [roundRobin, agentOfChoice]⟩
  | rdr => exact ⟨3 * n + 1, by omega, by simp [roundRobin, agentOfChoice, Nat.add_mod]⟩
  | be => exact ⟨3 * n + 2, by omega, by simp [roundRobin, agentOfChoice, Nat.add_mod]⟩

theorem test_witness_fair_run : WeaklyFair roundRobin ∧ Inv (inFrame 0) ∧ (inFrame 0).srOk = true ∧
    0 < slotsLeft (inFrame 0) ∧ tokens (inFrame 0) = 1 :=
  ⟨round_robin_is_fair, inv_of_empty_store _ rfl (by decide), rfl, by decide, by decide⟩

theorem test_witness_poll : { degraded with srRxValid := true }.rdrSub = .chk ∧
    { degraded with srRxValid := true }.srRxValid = true := by decide

/-- 95_test_vectors.md S1: the words differ in bit 8, position 4 of the first controller. -/
theorem test_witness_frame_injective : Params.default.WellFormed = true ∧ srPosOf Params.default .up = 4 ∧
    ∀ j, j < 32 → ((0xFFFFFFFF#32).getLsbD j ≠ (0xFFFFFEFF#32).getLsbD j ↔ j = 2 * 4 + 0) := by decide

theorem test_witness_upper_positions : ∀ j, j < 24 → (0xFFFFFFFF#32).getLsbD j = (0x00FFFFFF#32).getLsbD j := by decide

theorem test_witness_phase_operation :
    (Instr.tmPhSf, true, Latch.sf) ∈ [(Instr.tmPhS1, true, Latch.s1), (.tmPhS2, false, .s2), (.tmPhHi, true, .silent),
      (.tmPhLo, false, .silent), (.tmPhSf, true, .sf)] := by decide

theorem test_witness_select_waveform : (inPoll 10).rdrPc = .tmLoop ∧ (inPoll 10).tmPc < nPh (inPoll 10).params ∧
    { inPoll 0 with rdrPc := .tmDetect, pending := [.rdr] }.pending = [.rdr] := by decide

theorem test_witness_toggle_poll : ∃ s : State, s.rdrPc = .tmLoop ∧ s.tmPc = 0 ∧
    s.pending = tmPoll State.reset.lines s.params.tmUnlockPairs 0b101110 0b011111 0b111110 ++ [.be] :=
  ⟨{ inPoll 0 with pending := tmPoll State.reset.lines 4 0b101110 0b011111 0b111110 ++ [.be] }, rfl, rfl, rfl⟩

theorem test_witness_latch_injective : Params.default.WellFormed = true ∧
    tmPlaceOf Params.default .x2 = some (.final, 2) ∧ tmPlaceOf Params.default .up = some (.first, 0) ∧
    (∀ j, j < 6 → ((0b000100#6).getLsbD j = true ↔ j = 2)) ∧ (∀ j, j < 6 → ((0b000001#6).getLsbD j = true ↔ j = 0)) := by
  decide

/-- A state whose three latches are idle. -/
def idleLatches : State :=
  { State.reset with tmS1 := 0b111111, tmS2 := 0b111111, tmSf := 0b111111 }

theorem test_witness_idle_lines : (∀ k, k < 16 → (0xAAAAAAAA#32).getLsbD (2 * k + 1) = true) ∧
    (∀ k, k < 16 → (0x55555555#32).getLsbD (2 * k + 0) = true) ∧ idleLatches.tmS1 = BitVec.allOnes 6 ∧
    idleLatches.tmS2 = BitVec.allOnes 6 ∧ idleLatches.tmSf = BitVec.allOnes 6 := by decide

theorem test_witness_boot : { State.reset with pending := [.rdr, .rdr, .rdr, .rdr] }.rdrPc = .tmInit ∧
    probePresent Params.default 0b011111 = true ∧ probePresent Params.default 0b110000 = false := by decide

theorem test_witness_output_ports : (0#2).toNat < 2 ∧ (1#2).toNat < 2 ∧ 2 ≤ (2#2).toNat ∧ 2 ≤ (3#2).toNat := by decide

theorem test_witness_bus_step : { State.reset with pending := [.be] }.pending = .be :: [] := by decide

theorem test_witness_repeated_bus_step : ∃ s t u : State, s.pending = .be :: [] ∧ step s = .next t ∧ u.pending = .be :: [] ∧
    u.lines.en = s.lines.en ∧ u.lines.sel = s.lines.sel ∧ u.mem = t.mem ∧ u.beState = t.beState ∧ u.cnt = t.cnt ∧
    u.port = t.port ∧ u.prevSel = t.prevSel ∧ u.out = t.out :=
  ⟨{ State.reset with pending := [.be] }, { State.reset with prevSel := true, out := 0b1111 },
    { State.reset with prevSel := true, out := 0b1111, pending := [.be] }, rfl, rfl, rfl, rfl, rfl, rfl, rfl, rfl, rfl, rfl,
    rfl⟩

theorem test_witness_host_sequence : ∃ s : State, 4 ≤ s.params.cntSat ∧
    s.pending = host State.reset.lines true true ++ hostWindow State.reset.lines [true, false, true, false, true] ++ [.rdr] :=
  ⟨{ State.reset with
    pending := host State.reset.lines true true ++ hostWindow State.reset.lines [true, false, true, false, true] ++ [.rdr] },
    by decide, rfl⟩

theorem test_witness_desynchronised : ∃ s : State, 4 ≤ s.cnt ∧ s.cnt ≤ s.params.cntSat ∧ s.port = s.cnt / 2 ∧
    s.pending = hostWindow State.reset.lines [true] ++ [.rdr] :=
  ⟨{ State.reset with cnt := 4, port := 2, pending := hostWindow State.reset.lines [true] ++ [.rdr] },
    by decide, by decide, rfl, rfl⟩

theorem test_witness_store : (1 < 2) ∧ State.reset.mem.wf = true := by decide

theorem test_witness_completed_operation : ∃ t, exec .tmInit State.reset = .next t ∧ Instr.tmInit ≠ .snapWr ∧
    Instr.tmInit ≠ .tmCommit ∧ agentOf .tmInit = .rdr := ⟨_, rfl, by decide, by decide, rfl⟩

theorem test_witness_completed_by_each_agent : (∃ t, exec .srSeqLatch State.reset = .next t ∧ agentOf .srSeqLatch = .seq) ∧
    (∃ t, exec (.beHold true) State.reset = .next t ∧ agentOf (.beHold true) = .be) :=
  ⟨⟨_, rfl, rfl⟩, ⟨_, rfl, rfl⟩⟩

theorem test_witness_conditions :
    raised .srInit { State.reset with params := { Params.default with seqAvailable := false } } =
      some .resourceUnavailable ∧
    raised (.beEdge true) { State.reset with cnt := 3 } = some .protocolDesync ∧
    raised .tmCommit { State.reset with tmS1 := 0b111111, tmS2 := 0b111111, tmSf := 0b111111 } = some .controllerAbsent ∧
    raised .snapWr { State.reset with rdW := 0xFFFFFFFF } = some .controllerAbsent := by decide

theorem test_witness_whole_step : (∃ t, runChoice exec .be State.reset = .next t) ∧
    stepDrives .be State.reset = [.out 0b1111] ∧ stepDrives .seq (inFrame 15) = [.srClk true, .srClk false] :=
  ⟨⟨_, rfl⟩, by decide, by decide⟩

theorem test_witness_unselected_lines : Inv (inFrame 15) ∧ (inFrame 15).mode = .sr ∧ Inv (inPoll 0) ∧ (inPoll 0).mode = .tm :=
  ⟨inv_of_empty_store _ rfl (by decide), rfl, inv_of_empty_store _ rfl (by decide), rfl⟩

theorem test_witness_nominal_length : Params.default.srLatchClocks = 1 := by decide

theorem test_witness_invariant_in_poll : Inv { inPoll 11 with pending := [.be] } ∧
    ∃ t, step { inPoll 11 with pending := [.be] } = .next t :=
  ⟨inv_of_empty_store _ rfl (by decide), ⟨_, rfl⟩⟩

theorem test_witness_selected_mode : Inv { inPoll 0 with pending := [.be] } ∧ (inPoll 0).mode = .tm ∧
    Inv { inFrame 0 with pending := [.be] } ∧ (inFrame 0).mode = .sr ∧
    (∃ t, step { inPoll 0 with pending := [.be] } = .next t) ∧ (∃ t, step { inFrame 0 with pending := [.be] } = .next t) :=
  ⟨inv_of_empty_store _ rfl (by decide), rfl, inv_of_empty_store _ rfl (by decide), rfl, ⟨_, rfl⟩, ⟨_, rfl⟩⟩

theorem test_witness_idle_state : { State.reset with out := 0b1111 }.beState = .idle ∧
    { State.reset with out := 0b1111 }.out = 0b1111#4 ∧ { State.reset with out := 0b1111 }.cnt = 0 ∧
    { State.reset with out := 0b1111 }.port = 0 ∧
    ∃ t, step { State.reset with out := 0b1111, pending := [.be] } = .next t :=
  ⟨rfl, rfl, rfl, rfl, ⟨_, rfl⟩⟩

theorem test_witness_degraded : Inv { degraded with pending := [.be] } ∧ degraded.rdrPc = .srLoop ∧ degraded.srOk = false ∧
    ∃ t, step { degraded with pending := [.be] } = .next t :=
  ⟨inv_of_empty_store _ rfl (by decide), rfl, rfl, ⟨_, rfl⟩⟩

end Sys2Proof.Tests
end

/-! PROOFS. The scope family (00_scope.md): the schedule and the step (O6, O8), the parameters (O59), and the liveness of the
frame handshake (O17). -/

namespace Sys2Proof.Machine

/-! ### What the operations with a store access or a noted condition do -/

/-- An access to the store goes on exactly where it has answered. -/
theorem orNoSnapshot_eq_next {α : Type} {o : Option α} {k : α → Result} {t : State} :
    orNoSnapshot o k = .next t ↔ ∃ a, o = some a ∧ k a = .next t := by
  cases o <;> simp

/-- SNAP.WR always completes, for it targets an index of the store (R131). -/
theorem execSnapWr_eq (s : State) : execSnapWr s = .next { s with
    mem := s.mem.write (snapTarget s) ((snapValue s).setWidth 16)
    rdrSub := if s.rdrSub = .wrA then .wrB else .chk } := by
  rw [execSnapWr, memWrite_of_lt _ _ (snapTarget_lt s), orNoSnapshot_some]

/-- TM.COMMIT always completes (R179). -/
theorem execTmCommit_eq (s : State) : execTmCommit s = .next { s with
    mem := s.mem.write 0 ((commitValue s).setWidth 16)
    tmPc := 0 } := by
  rw [execTmCommit, memWrite_of_lt _ _ (by decide), orNoSnapshot_some, State.raiseIf_eq]

/-- BE.EDGE is the counted transition; the condition it may note changes nothing (R218, R257). -/
theorem execBeEdge_eq (e : Bool) (s : State) : execBeEdge e s = .next (s.edge e) := by
  rw [execBeEdge, State.raiseIf_eq]

/-- BE.OUT.DIR at a port that exists (R221). -/
theorem execBeOutDir_of_lt (s : State) {pp : BitVec 2} (h : pp.toNat < 2) :
    execBeOutDir pp s = .next (s.drive (.out (dirHalf ((s.mem.read pp.toNat).setWidth 12)))) := by
  rw [execBeOutDir, memRead_of_lt _ h, orNoSnapshot_some]

/-- BE.OUT.BTN at a port that exists (R222). -/
theorem execBeOutBtn_of_lt (s : State) {pp : BitVec 2} (h : pp.toNat < 2) :
    execBeOutBtn pp s = .next (s.drive (.out (btnHalf ((s.mem.read pp.toNat).setWidth 12)))) := by
  rw [execBeOutBtn, memRead_of_lt _ h, orNoSnapshot_some]

/-! ### A property that every operation keeps is kept by every step -/

/-- A word that runs has run an operation. -/
theorem runWord_eq_next {run : Instr → State → Result} {w : DecodeWord} {s t : State} (h : runWord run w s = .next t) :
    ∃ i, decode w = .ok i ∧ run i s = .next t := by
  unfold runWord at h
  split at h
  · exact ⟨_, by assumption, h⟩
  · cases h

/-- The output half of a BE step is one operation (R224). -/
theorem runOut_eq_next {run : Instr → State → Result} {u : Instr} {s t : State} (h : runOut run u s = .next t) :
    ∃ i, run i s = .next t := by
  unfold runOut at h
  split at h
  · exact ⟨_, h⟩
  · obtain ⟨i, -, hi⟩ := runWord_eq_next h
    exact ⟨i, hi⟩

/-- A BE step that completes has run two operations (R224). -/
theorem runBe_eq_next {run : Instr → State → Result} {s t : State} (h : runBe run s = .next t) :
    ∃ i u, decode (bewWord s) = .ok i ∧ run i s = .next u ∧ runOut run i u = .next t := by
  unfold runBe at h
  split at h
  · obtain ⟨u, hu, hout⟩ := andThen_eq_next.1 h
    exact ⟨_, u, by assumption, hu, hout⟩
  · cases h

section Keeps

variable {P : State → Prop} {s t : State}

/-- What every operation and every change of the input lines keeps, the step of every agent keeps (R13). -/
theorem runChoice_keeps (hexec : ∀ i u v, P u → exec i u = .next v → P v) (hlines : ∀ u l, P u → P (u.setLines l))
    {c : Choice} (hs : P s) (h : runChoice exec c s = .next t) : P t := by
  have hword : ∀ w, runWord exec w s = .next t → P t := fun w hw =>
    have ⟨i, _, hi⟩ := runWord_eq_next hw
    hexec i s t hs hi
  cases c with
  | env l => exact Host.Outcome.next.inj h ▸ hlines s l hs
  | rdr => exact hword _ h
  | seq =>
    cases hok : s.srOk with
    | true => exact hword _ ((runSeq_of_ok exec s hok).symm.trans h)
    | false => exact Host.Outcome.next.inj ((runSeq_of_not_ok exec s hok).symm.trans h) ▸ hs
  | be =>
    obtain ⟨i, u, -, hu, hout⟩ := runBe_eq_next h
    obtain ⟨j, hj⟩ := runOut_eq_next hout
    exact hexec j u t (hexec i s u hs hu) hj

/-- What every operation, every change of the input lines and every choice of the schedule keeps, every step keeps. -/
theorem step_keeps (hexec : ∀ i u v, P u → exec i u = .next v → P v) (hlines : ∀ u l, P u → P (u.setLines l))
    (hchoice : ∀ u, P u → P u.takeChoice.2) (hs : P s) (h : step s = .next t) : P t :=
  runChoice_keeps hexec hlines (hchoice s hs) h

end Keeps

/-! ### The parameters (R9, R20) -/

/-- No operation writes the parameters. -/
theorem exec_params {i : Instr} {s t : State} (h : exec i s = .next t) : t.params = s.params := by
  cases i with
  | snapWr => exact Host.Outcome.next.inj ((execSnapWr_eq s).symm.trans h) ▸ rfl
  | tmCommit => exact Host.Outcome.next.inj ((execTmCommit_eq s).symm.trans h) ▸ rfl
  | beEdge e => exact Host.Outcome.next.inj ((execBeEdge_eq e s).symm.trans h) ▸ rfl
  | beOutDir pp | beOutBtn pp =>
    obtain ⟨snap, -, hk⟩ := orNoSnapshot_eq_next.1 h
    exact Host.Outcome.next.inj hk ▸ rfl
  | tmPhS1 | tmPhS2 | tmPhHi | tmPhLo | tmPhSf =>
    rw [← Host.Outcome.next.inj h, State.phase_eq]
  | srSeqWait | srPollPop | srInit | bootSelect =>
    simp only [exec, execSrSeqWait, execSrPollPop, execSrInit, execBootSelect] at h
    split at h <;> exact Host.Outcome.next.inj h ▸ rfl
  | srSeqShift =>
    simp only [exec, execSrSeqShift] at h
    split at h
    · split_ifs at h <;> exact Host.Outcome.next.inj h ▸ rfl
    · cases h
    · cases h
  | srSeqLatch | srTrig | tmInit | tmDetectEnd | tmProbe | beIdle | beHold | beOutNone =>
    exact Host.Outcome.next.inj h ▸ rfl

/-- Taking a choice writes `pending` or `draws` alone. -/
theorem State.takeChoice_params (s : State) : s.takeChoice.2.params = s.params := by
  unfold State.takeChoice
  split <;> rfl

/-- Settles O59: no operation writes the parameters, so no step does. -/
theorem parametersNeverChange : Obligations.ParametersNeverChange := by
  intro s t h
  exact step_keeps (P := fun u => u.params = s.params) (fun _ _ _ hu hv => (exec_params hv).trans hu) (fun _ _ hu => hu)
    (fun u hu => u.takeChoice_params.trans hu) rfl h

/-! ### The step and the schedule (R13) -/

/-- Settles O6, by the chosen agent. -/
theorem stepRunsTheDecodedOperation : Obligations.StepRunsTheDecodedOperation := by
  intro s cs
  refine ⟨fun l h => ?_, fun i h hi => ?_, fun i h hok hi => ?_, fun h hok => ?_⟩
  · rw [step_of_pending s _ cs h]
    rfl
  · rw [step_of_pending s _ cs h]
    exact runWord_of_decode _ _ _ i hi
  · rw [step_of_pending s _ cs h]
    exact (runSeq_of_ok exec { s with pending := cs } hok).trans (runWord_of_decode _ _ _ i hi)
  · rw [step_of_pending s _ cs h]
    exact runSeq_of_not_ok _ _ hok

/-- Settles O8: both steps run the free choice at the state whose counter has advanced. -/
theorem freeScheduleChoosesTheAgent : Obligations.FreeScheduleChoosesTheAgent := by
  intro s h
  rw [step_of_free s h, step_of_pending _ (Config.choice s.draws) [] rfl, h]

end Sys2Proof.Machine

namespace Sys2Proof.Machine

/-! ### The steps of the shift-register loop -/

/-- The operation of the sequencer at a position (R100). -/
def slotInstr : SrPc → Instr
  | .wait => .srSeqWait
  | .latch => .srSeqLatch
  | .shift _ => .srSeqShift

/-- A SEQ step of an acquired sequencer runs the operation of its position (R34, R100). -/
theorem runSeq_eq_exec (s : State) (h : s.srOk = true) : runSeq exec s = exec (slotInstr s.srPc) s := by
  rw [runSeq_of_ok exec s h, runWord_of_decode exec _ s _ (decode_srsWord s)]
  cases s.srPc <;> rfl

/-- The operation of the reader context at a micro-step of SR.POLL (R102). -/
def pollInstr : RdrSub → Instr
  | .chk => .srPollPop
  | .trig => .srTrig
  | .wrA | .wrB => .snapWr

/-- In the shift-register loop the reader's word is that of the micro-step (R102). -/
theorem decode_rdrWord_srLoop (s : State) (h : s.rdrPc = .srLoop) : decode (rdrWord s) = .ok (pollInstr s.rdrSub) := by
  simp only [rdrWord, opnBits, h]
  cases s.rdrSub <;> rfl

/-- An RDR step in the shift-register loop runs the operation of its micro-step (R102). -/
theorem runRdr_eq_exec (s : State) (h : s.rdrPc = .srLoop) : runRdr exec s = exec (pollInstr s.rdrSub) s :=
  runWord_of_decode exec _ s _ (decode_rdrWord_srLoop s h)

/-- A slot before the last shifts and goes to the next one (R144). -/
theorem execSrSeqShift_of_ne_last {s : State} {k : Fin srFrameClocks} (hpc : s.srPc = .shift k) (hk : k ≠ lastSlot) :
    execSrSeqShift s = .next { s.clockSlot with srPc := .shift (k + 1) } := by
  unfold execSrSeqShift
  rw [hpc]
  exact if_neg hk

/-- The last slot shifts and delivers into an empty receive queue (R144). -/
theorem execSrSeqShift_last {s : State} (hpc : s.srPc = .shift lastSlot) (hv : s.srRxValid = false) :
    execSrSeqShift s = .next { s.clockSlot.putFrame s.clockSlot.srIsr with srPc := .wait } := by
  simp [execSrSeqShift, hpc, hv]

/-- The output half of a step that addresses a port drives the data lines and nothing else (R224, R240). -/
theorem runWord_bowWord (s : State) : ∃ v, runWord exec (bowWord s) s = .next (s.drive (.out v)) := by
  rw [runWord_of_decode exec _ s _ (decode_bowWord s)]
  have hport (hp : ¬ 2 ≤ s.port) : (BitVec.ofNat 2 s.port).toNat < 2 := by
    rw [BitVec.toNat_ofNat]
    omega
  split_ifs with hp hsel
  · exact ⟨noData, rfl⟩
  · exact ⟨_, execBeOutDir_of_lt s (hport hp)⟩
  · exact ⟨_, execBeOutBtn_of_lt s (hport hp)⟩

/-- A BE step always completes, and it writes the bus emulator's own registers only (R42, R225). -/
theorem runBe_completes (s : State) : ∃ b n p x v,
    runBe exec s = .next { s with beState := b, cnt := n, port := p, prevSel := x, out := v } := by
  have hedge : exec (.beEdge s.lines.sel) s = .next (s.edge s.lines.sel) := execBeEdge_eq _ s
  rw [runBe_eq]
  split_ifs
  · exact ⟨_, _, _, _, _, rfl⟩
  · obtain ⟨v, hv⟩ := runWord_bowWord { s with beState := .addressing, prevSel := s.lines.sel }
    exact ⟨_, _, _, _, v, hv⟩
  · obtain ⟨v, hv⟩ := runWord_bowWord (s.edge s.lines.sel)
    rw [hedge, andThen_next]
    exact ⟨_, _, _, _, v, hv⟩

end Sys2Proof.Machine

namespace Sys2Proof.Safety

open Sys2Proof.Machine

/-! ### Weak fairness makes a decreasing measure run out (R13) -/

/-- A choice lets the sequencer step only where it is SEQ. -/
theorem agentOfChoice_eq_seq {c : Choice} : agentOfChoice c = some .seq ↔ c = .seq := by
  cases c <;> simp [agentOfChoice]

/-- A choice lets the reader context step only where it is RDR. -/
theorem agentOfChoice_eq_rdr {c : Choice} : agentOfChoice c = some .rdr ↔ c = .rdr := by
  cases c <;> simp [agentOfChoice]

/-- Under weak fairness, P leads to Q, where each step of one agent brings Q about or lowers a measure, and no other step gives
up P or raises the measure. By induction on the measure, and within it on the time until that agent steps. -/
theorem WeaklyFair.leads_to {P Q : State → Prop} (f : State → Nat) (a : Agent)
    (hagent : ∀ s c, P s → agentOfChoice c = some a → Q (stepOn c s) ∨ P (stepOn c s) ∧ f (stepOn c s) < f s)
    (hother : ∀ s c, P s → agentOfChoice c ≠ some a → P (stepOn c s) ∧ f (stepOn c s) ≤ f s)
    {σ : Nat → Choice} (hσ : WeaklyFair σ) {s : State} (hP : P s) : ∃ n, Q (follow σ s n) := by
  have hlater {σ : Nat → Choice} {s : State} (h : ∃ n, Q (follow (fun k => σ (1 + k)) (stepOn (σ 0) s) n)) :
      ∃ n, Q (follow σ s n) :=
    have ⟨n, hn⟩ := h
    ⟨1 + n, (follow_add σ s 1 n).symm ▸ hn⟩
  obtain ⟨N, hN⟩ : ∃ N, f s < N := ⟨_, Nat.lt_succ_self _⟩
  induction N generalizing σ s with
  | zero => exact absurd hN (Nat.not_lt_zero _)
  | succ N ihN =>
    have hnow {σ : Nat → Choice} {s : State} (hσ : WeaklyFair σ) (hP : P s) (hN : f s < N + 1)
        (h0 : agentOfChoice (σ 0) = some a) : ∃ n, Q (follow σ s n) := by
      rcases hagent s _ hP h0 with hQ | ⟨hP', hlt⟩
      · exact ⟨1, hQ⟩
      · exact hlater (ihN (hσ.tail 1) hP' (by omega))
    obtain ⟨m, -, hm⟩ := hσ a 0
    induction m generalizing σ s with
    | zero => exact hnow hσ hP hN hm
    | succ m ihm =>
      by_cases h0 : agentOfChoice (σ 0) = some a
      · exact hnow hσ hP hN h0
      · obtain ⟨hP', hle⟩ := hother s _ hP h0
        exact hlater (ihm (hσ.tail 1) hP' (by omega) (by rwa [Nat.add_comm 1 m]))

/-! ### The frame handshake in the shift-register loop (R46 c, R150, R301) -/

/-- The token of a sequencer position: every one but `WAIT` holds one (R46 c). -/
def slotToken : SrPc → Nat
  | .wait => 0
  | .latch | .shift _ => 1

/-- The token of a micro-step of SR.POLL: `SUB_TRIG` holds one (R46 c). -/
def pollToken : RdrSub → Nat
  | .trig => 1
  | .chk | .wrA | .wrB => 0

/-- The tokens, by the registers that hold them. -/
theorem tokens_eq (s : State) :
    tokens s = s.srTrig.toNat + slotToken s.srPc + s.srRxValid.toNat + pollToken s.rdrSub := by
  unfold tokens
  cases s.srPc <;> cases s.rdrSub <;> rfl

/-- A frame is due exactly while the trigger or the sequencer holds a token. -/
theorem slotsLeft_pos (s : State) : 0 < slotsLeft s ↔ 0 < s.srTrig.toNat + slotToken s.srPc := by
  unfold slotsLeft
  match s.srPc with
  | .wait => cases s.srTrig <;> simp [slotToken]
  | .latch => simp [slotToken]
  | .shift k => simp [slotToken, slot_lt k]

/-- The shift-register loop runs, with the sequencer acquired and at most one token of the handshake about. -/
structure Polling (s : State) : Prop where
  ok : s.srOk = true
  in_loop : s.rdrPc = .srLoop
  one_token : tokens s ≤ 1

/-- The loop runs wherever the invariant holds and the sequencer is acquired. -/
theorem polling_of_inv {s : State} (h : Inv s) (hok : s.srOk = true) : Polling s :=
  ⟨hok, h.ok_in_loop hok, h.one_token⟩

/-- While a frame is due, none waits and SR.POLL is not about to trigger another. -/
theorem Polling.of_frame_due {s : State} (h : Polling s) (hdue : 0 < slotsLeft s) :
    s.srRxValid = false ∧ s.rdrSub ≠ .trig := by
  have hone := tokens_eq s ▸ h.one_token
  rw [slotsLeft_pos] at hdue
  refine ⟨?_, fun hsub => ?_⟩
  · rw [← Bool.toNat_eq_zero]
    omega
  · rw [hsub, pollToken] at hone
    omega

/-- While a frame waits, none is due and SR.POLL is not about to trigger one. -/
theorem Polling.of_frame_waits {s : State} (h : Polling s) (hv : s.srRxValid = true) :
    slotsLeft s = 0 ∧ s.rdrSub ≠ .trig := by
  have hone := tokens_eq s ▸ h.one_token
  rw [hv, Bool.toNat_true] at hone
  refine ⟨?_, fun hsub => ?_⟩
  · have := slotsLeft_pos s
    omega
  · rw [hsub, pollToken] at hone
    omega

/-- A trigger is not pending while the sequencer or SR.POLL holds the token. -/
theorem Polling.no_trigger {s : State} (h : Polling s) (hheld : 0 < slotToken s.srPc + pollToken s.rdrSub) :
    s.srTrig = false := by
  have hone := tokens_eq s ▸ h.one_token
  rw [← Bool.toNat_eq_zero]
  omega

/-- The token is with the frame that is due, with the frame that waits, or with SR.POLL. -/
theorem token_place {s : State} (h : tokens s = 1) : 0 < slotsLeft s ∨ s.srRxValid = true ∨ s.rdrSub = .trig := by
  rw [tokens_eq] at h
  rw [slotsLeft_pos]
  match hv : s.srRxValid, hsub : s.rdrSub with
  | true, _ => exact .inr (.inl rfl)
  | false, .trig => exact .inr (.inr rfl)
  | false, .chk | false, .wrA | false, .wrB =>
    simp only [hv, hsub, pollToken, Bool.toNat_false] at h
    exact .inl (by omega)

/-- How many RDR steps are left until SR.POLL takes a frame that waits. -/
def pollsLeft : RdrSub → Nat
  | .chk => 1
  | .wrB => 2
  | .wrA => 3
  | .trig => 4

/-- What a step can do to the handshake while the shift-register loop runs. -/
structure LoopStep (c : Choice) (s t : State) : Prop where
  ok : t.srOk = true
  in_loop : t.rdrPc = .srLoop
  tokens_kept : tokens t = tokens s
  /-- A SEQ step takes one slot. -/
  slot_taken : c = .seq → slotsLeft t = slotsLeft s - 1
  /-- The last slot delivers. -/
  delivers : c = .seq → slotsLeft s = 1 → t.srRxValid = true ∧ t.srRxWord = t.srIsr
  /-- No other agent puts a due frame off. -/
  slots_kept : c ≠ .seq → 0 < slotsLeft s → slotsLeft t = slotsLeft s
  /-- An RDR step takes the frame that waits, or comes nearer to it. -/
  frame_neared : c = .rdr → s.srRxValid = true →
    t.rdrSub = .trig ∨ t.srRxValid = true ∧ pollsLeft t.rdrSub < pollsLeft s.rdrSub
  /-- No other agent touches the frame that waits. -/
  frame_kept : c ≠ .rdr → s.srRxValid = true → t.srRxValid = true ∧ t.rdrSub = s.rdrSub

/-- What is left to show of a SEQ step. -/
theorem LoopStep.of_seq {s t : State} (hok : t.srOk = true) (hloop : t.rdrPc = .srLoop) (htok : tokens t = tokens s)
    (hslot : slotsLeft t = slotsLeft s - 1) (hlast : slotsLeft s = 1 → t.srRxValid = true ∧ t.srRxWord = t.srIsr)
    (hkept : s.srRxValid = true → t.srRxValid = true ∧ t.rdrSub = s.rdrSub) : LoopStep .seq s t :=
  ⟨hok, hloop, htok, fun _ => hslot, fun _ => hlast, fun h => absurd rfl h, nofun, fun _ => hkept⟩

/-- What is left to show of an RDR step. -/
theorem LoopStep.of_rdr {s t : State} (hok : t.srOk = true) (hloop : t.rdrPc = .srLoop) (htok : tokens t = tokens s)
    (hslots : 0 < slotsLeft s → slotsLeft t = slotsLeft s)
    (hnear : s.srRxValid = true → t.rdrSub = .trig ∨ t.srRxValid = true ∧ pollsLeft t.rdrSub < pollsLeft s.rdrSub) :
    LoopStep .rdr s t :=
  ⟨hok, hloop, htok, nofun, nofun, fun _ => hslots, fun _ => hnear, fun h => absurd rfl h⟩

/-- SEQ: `WAIT` takes the trigger or changes nothing, the latch slot and fifteen slots advance, the last slot delivers. -/
theorem seq_loopStep {s : State} (h : Polling s) : ∃ t, runSeq exec s = .next t ∧ LoopStep .seq s t := by
  rw [runSeq_eq_exec s h.ok]
  match hpc : s.srPc with
  | .wait =>
    by_cases htrig : s.srTrig = true
    · refine ⟨_, if_pos htrig, .of_seq h.ok h.in_loop ?_ ?_ ?_ fun hv => ⟨hv, rfl⟩⟩
      all_goals simp [tokens_eq, slotToken, slotsLeft, hpc, htrig]
    · refine ⟨_, if_neg htrig, .of_seq h.ok h.in_loop rfl ?_ ?_ fun hv => ⟨hv, rfl⟩⟩
      all_goals simp [slotsLeft, hpc, htrig]
  | .latch =>
    refine ⟨_, rfl, .of_seq h.ok h.in_loop ?_ ?_ ?_ fun hv => ⟨hv, rfl⟩⟩
    all_goals simp [tokens_eq, slotToken, slotsLeft, hpc]
  | .shift k =>
    have hk16 := slot_lt k
    have hleft : slotsLeft s = 16 - k.val := by simp [slotsLeft, hpc]
    obtain ⟨hv, -⟩ := h.of_frame_due (by omega)
    have htrig : s.srTrig = false := h.no_trigger (by simp [hpc, slotToken])
    by_cases hk : k = lastSlot
    · subst hk
      refine ⟨_, execSrSeqShift_last hpc hv, .of_seq h.ok h.in_loop ?_ ?_ (fun _ => ⟨rfl, rfl⟩) fun _ => ⟨rfl, rfl⟩⟩
      all_goals simp [tokens_eq, slotToken, slotsLeft, hpc, hv, htrig]
    · have hne : k.val ≠ 15 := fun hval => hk (Fin.ext hval)
      have hnext : (k + 1).val = k.val + 1 := Fin.val_add_one_of_lt' (show k.val + 1 < 16 by omega)
      refine ⟨_, execSrSeqShift_of_ne_last hpc hk, .of_seq h.ok h.in_loop ?_ ?_ (fun hlast => ?_) fun hv => ⟨hv, rfl⟩⟩
      · simp [tokens_eq, slotToken, hpc]
      · simp only [slotsLeft, hpc, hnext]
        omega
      · omega

/-- RDR: `SUB_CHK` takes a frame that waits, `SUB_TRIG` hands the token on as a trigger, the two stores only advance. -/
theorem rdr_loopStep {s : State} (h : Polling s) : ∃ t, runRdr exec s = .next t ∧ LoopStep .rdr s t := by
  rw [runRdr_eq_exec s h.in_loop]
  match hsub : s.rdrSub with
  | .chk =>
    by_cases hv : s.srRxValid = true
    · refine ⟨_, if_pos hv, .of_rdr h.ok h.in_loop ?_ (fun _ => rfl) fun _ => .inl rfl⟩
      simp [tokens_eq, pollToken, hsub, hv]
    · exact ⟨_, if_neg hv, .of_rdr h.ok h.in_loop rfl (fun _ => rfl) fun hv' => absurd hv' hv⟩
  | .trig =>
    have htrig : s.srTrig = false := h.no_trigger (by simp [hsub, pollToken])
    refine ⟨_, rfl, .of_rdr h.ok h.in_loop ?_ (fun hdue => absurd hsub (h.of_frame_due hdue).2)
      fun hv => absurd hsub (h.of_frame_waits hv).2⟩
    rw [tokens_eq, tokens_eq, hsub, htrig]
    change 1 + slotToken s.srPc + s.srRxValid.toNat + 0 = 0 + slotToken s.srPc + s.srRxValid.toNat + 1
    omega
  | .wrA | .wrB =>
    refine ⟨_, execSnapWr_eq s, .of_rdr h.ok h.in_loop ?_ (fun _ => rfl) fun hv => .inr ⟨hv, ?_⟩⟩
    all_goals simp [tokens_eq, pollToken, pollsLeft, hsub]

/-- ENV and BE touch no register of the handshake. -/
theorem other_loopStep {s : State} (h : Polling s) {c : Choice} (hseq : c ≠ .seq) (hrdr : c ≠ .rdr) :
    ∃ t, runChoice exec c s = .next t ∧ LoopStep c s t := by
  cases c with
  | env l => exact ⟨_, rfl, h.ok, h.in_loop, rfl, nofun, nofun, fun _ _ => rfl, nofun, fun _ hv => ⟨hv, rfl⟩⟩
  | be =>
    obtain ⟨b, n, p, x, v, hbe⟩ := runBe_completes s
    exact ⟨_, hbe, h.ok, h.in_loop, rfl, nofun, nofun, fun _ _ => rfl, nofun, fun _ hv => ⟨hv, rfl⟩⟩
  | seq => exact absurd rfl hseq
  | rdr => exact absurd rfl hrdr

/-- While the shift-register loop runs, the step of every agent completes and moves the handshake so. -/
theorem runChoice_loopStep {s : State} (h : Polling s) (c : Choice) :
    ∃ t, runChoice exec c s = .next t ∧ LoopStep c s t := by
  by_cases hseq : c = .seq
  · exact hseq ▸ seq_loopStep h
  · by_cases hrdr : c = .rdr
    · exact hrdr ▸ rdr_loopStep h
    · exact other_loopStep h hseq hrdr

/-- The choices that are pending are no part of the handshake. -/
theorem loopStep_of_pending {s : State} (h : Polling s) (c : Choice) (cs : List Choice) :
    ∃ t, runChoice exec c { s with pending := cs } = .next t ∧ LoopStep c s t := by
  have hs : Polling { s with pending := cs } := ⟨h.ok, h.in_loop, h.one_token⟩
  obtain ⟨t, hrun, ht⟩ := runChoice_loopStep hs c
  exact ⟨t, hrun, ht.ok, ht.in_loop, ht.tokens_kept, ht.slot_taken, ht.delivers, ht.slots_kept, ht.frame_neared,
    ht.frame_kept⟩

/-- The loop goes on running. -/
theorem LoopStep.polling {c : Choice} {s t : State} (h : LoopStep c s t) (hs : Polling s) : Polling t :=
  ⟨h.ok, h.in_loop, h.tokens_kept ▸ hs.one_token⟩

/-- A step on a given choice is such a step. -/
theorem stepOn_loopStep {s : State} (h : Polling s) (c : Choice) : LoopStep c s (stepOn c s) := by
  obtain ⟨t, hrun, ht⟩ := loopStep_of_pending h c []
  rwa [stepOn_of_run c s t hrun]

/-- Along every schedule the loop goes on running, with the tokens it holds. -/
theorem follow_polling {s : State} (h : Polling s) (σ : Nat → Choice) (n : Nat) :
    Polling (follow σ s n) ∧ tokens (follow σ s n) = tokens s := by
  induction n with
  | zero => exact ⟨h, rfl⟩
  | succ n ih =>
    obtain ⟨hn, htok⟩ := ih
    have hstep := stepOn_loopStep hn (σ n)
    exact ⟨hstep.polling hn, hstep.tokens_kept.trans htok⟩

/-- Every due frame is delivered, for SEQ steps again and again. -/
theorem due_frame_is_delivered {s : State} (h : Polling s) (hdue : 0 < slotsLeft s) {σ : Nat → Choice}
    (hσ : WeaklyFair σ) :
    ∃ n, (follow σ s n).srRxValid = true ∧ (follow σ s n).srRxWord = (follow σ s n).srIsr := by
  refine hσ.leads_to (P := fun u => Polling u ∧ 0 < slotsLeft u) (Q := fun u => u.srRxValid = true ∧ u.srRxWord = u.srIsr)
    slotsLeft .seq (fun u c hu hc => ?_) (fun u c hu hc => ?_) ⟨h, hdue⟩
  · obtain ⟨hp, hdue⟩ := hu
    have hstep := stepOn_loopStep hp c
    have hseq := agentOfChoice_eq_seq.1 hc
    have hleft := hstep.slot_taken hseq
    by_cases hlast : slotsLeft u = 1
    · exact .inl (hstep.delivers hseq hlast)
    · exact .inr ⟨⟨hstep.polling hp, by omega⟩, by omega⟩
  · obtain ⟨hp, hdue⟩ := hu
    have hstep := stepOn_loopStep hp c
    have hleft := hstep.slots_kept (fun hseq => hc (agentOfChoice_eq_seq.2 hseq)) hdue
    exact ⟨⟨hstep.polling hp, by omega⟩, by omega⟩

/-- Every frame that waits is consumed, for RDR steps again and again. -/
theorem waiting_frame_is_consumed {s : State} (h : Polling s) (hv : s.srRxValid = true) {σ : Nat → Choice}
    (hσ : WeaklyFair σ) : ∃ n, (follow σ s n).rdrSub = .trig := by
  refine hσ.leads_to (P := fun u => Polling u ∧ u.srRxValid = true) (Q := fun u => u.rdrSub = .trig)
    (fun u => pollsLeft u.rdrSub) .rdr (fun u c hu hc => ?_) (fun u c hu hc => ?_) ⟨h, hv⟩
  · obtain ⟨hp, hv⟩ := hu
    have hstep := stepOn_loopStep hp c
    rcases hstep.frame_neared (agentOfChoice_eq_rdr.1 hc) hv with htrig | ⟨hv', hlt⟩
    · exact .inl htrig
    · exact .inr ⟨⟨hstep.polling hp, hv'⟩, hlt⟩
  · obtain ⟨hp, hv⟩ := hu
    have hstep := stepOn_loopStep hp c
    obtain ⟨hv', hsub⟩ := hstep.frame_kept (fun hrdr => hc (agentOfChoice_eq_rdr.2 hrdr)) hv
    exact ⟨⟨hstep.polling hp, hv'⟩, (congrArg pollsLeft hsub).le⟩

/-- Where a token is held, SR.POLL consumes a frame sooner or later: a due frame is delivered first. -/
theorem held_token_is_consumed {s : State} (h : Polling s) (htok : tokens s = 1) {σ : Nat → Choice}
    (hσ : WeaklyFair σ) : ∃ n, (follow σ s n).rdrSub = .trig := by
  rcases token_place htok with hdue | hv | hsub
  · obtain ⟨n, hv, -⟩ := due_frame_is_delivered h hdue hσ
    obtain ⟨m, hm⟩ := waiting_frame_is_consumed (follow_polling h σ n).1 hv (hσ.tail n)
    exact ⟨n + m, (follow_add σ s n m).symm ▸ hm⟩
  · exact waiting_frame_is_consumed h hv hσ
  · exact ⟨0, hsub⟩

/-- Settles O17: the step lemma of the loop gives the first part, and weak fairness the two liveness claims. -/
theorem eachSlotBringsTheFrameNearer : Obligations.EachSlotBringsTheFrameNearer := by
  refine ⟨fun s c cs hs hp hok hdue => ?_, fun s σ hs hσ hok hdue => ?_, fun s σ hs hσ hok htok n => ?_⟩
  · obtain ⟨t, hrun, ht⟩ := loopStep_of_pending (polling_of_inv hs hok) c cs
    refine ⟨t, (step_of_pending s c cs hp).trans hrun, ht.ok, fun hseq => ⟨?_, ht.delivers hseq⟩,
      fun hne => ht.slots_kept hne hdue⟩
    have := ht.slot_taken hseq
    omega
  · exact due_frame_is_delivered (polling_of_inv hs hok) hdue hσ
  · obtain ⟨hn, htokn⟩ := follow_polling (polling_of_inv hs hok) σ n
    obtain ⟨m, hm⟩ := held_token_is_consumed hn (htokn.trans htok) (hσ.tail n)
    exact ⟨n + m, Nat.le_add_right n m, (follow_add σ s n m).symm ▸ hm⟩

end Sys2Proof.Safety

/-! PROOFS. The state family (10_state.md): what a step of RDR and of BE can do, the owners of the registers (O48), the
invariant (O52, O53), the mode (O55), the idle bus (O56) and the reset values (O60). -/

namespace Sys2Proof.Machine

/-! ### What a step of RDR can do -/

/-- Everything that programming the sequencer changes (R145). -/
theorem programSequencer_eq (s : State) : s.programSequencer = { s with
    srClk := s.params.srClkIdle, srLatch := !s.params.srLatchActive, srTrig := true, srOk := true, srPc := .wait
    srRxValid := false } := by
  simp only [State.programSequencer, State.drive_to_srClk, State.drive_to_srLatch, State.putTrigger]

/-- SR.INIT where the sequencer can be acquired (R145). -/
theorem execSrInit_of_available {s : State} (ha : s.params.seqAvailable = true) : execSrInit s = .next { s with
    srClk := s.params.srClkIdle, srLatch := !s.params.srLatchActive, srTrig := true, srOk := true, srPc := .wait
    srRxValid := false, rdrPc := .srLoop, rdrSub := .chk } := by
  rw [execSrInit, if_pos ha, programSequencer_eq]

/-- SR.INIT where it cannot: the reader goes on without it (R145). -/
theorem execSrInit_of_unavailable {s : State} (ha : s.params.seqAvailable = false) : execSrInit s = .next { s with
    srOk := false, rdrPc := .srLoop, rdrSub := .chk } := by
  rw [execSrInit, if_neg (Bool.eq_false_iff.1 ha), State.raise_eq]

/-- What an RDR step can do, by the reader's position (R102). -/
inductive RdrStep (s : State) : State → Prop
  | tmInit (hpc : s.rdrPc = .tmInit) : RdrStep s { s with
      tmSel := s.params.tmSelInit, tmPwr := s.params.tmPwrActive, tmPc := 0, rdrPc := .tmProbe }
  | tmProbe (hpc : s.rdrPc = .tmProbe) : RdrStep s { s with
      tmPresent := probePresent s.params s.lines.tmIn, rdrPc := .select }
  | selectTm (hpc : s.rdrPc = .select) (hp : s.tmPresent = true) : RdrStep s { s with
      mode := .tm, tmPc := 0, rdrPc := .tmDetect }
  | selectSr (hpc : s.rdrPc = .select) (hp : s.tmPresent = false) : RdrStep s { s with mode := .sr, rdrPc := .srInit }
  | phase (l : Bool) (m : Latch) (hpc : s.rdrPc = .tmDetect ∨ s.rdrPc = .tmLoop) (hlt : s.tmPc < nPh s.params) :
      RdrStep s (s.phase l m)
  | detectEnd (hpc : s.rdrPc = .tmDetect) (hend : s.tmPc = nPh s.params) : RdrStep s { s with
      ext6 := extDetect s.params s.tmSid, tmPc := 0, rdrPc := .tmLoop }
  | commit (hpc : s.rdrPc = .tmLoop) (hend : s.tmPc = nPh s.params) : RdrStep s { s with
      mem := s.mem.write 0 ((commitValue s).setWidth 16), tmPc := 0 }
  | acquire (hpc : s.rdrPc = .srInit) (ha : s.params.seqAvailable = true) : RdrStep s { s with
      srClk := s.params.srClkIdle, srLatch := !s.params.srLatchActive, srTrig := true, srOk := true, srPc := .wait
      srRxValid := false, rdrPc := .srLoop, rdrSub := .chk }
  | degrade (hpc : s.rdrPc = .srInit) (ha : s.params.seqAvailable = false) : RdrStep s { s with
      srOk := false, rdrPc := .srLoop, rdrSub := .chk }
  | pop (hpc : s.rdrPc = .srLoop) (hsub : s.rdrSub = .chk) (hv : s.srRxValid = true) : RdrStep s
      { s.takeFrame with rdrSub := .trig }
  | wait (hpc : s.rdrPc = .srLoop) (hsub : s.rdrSub = .chk) (hv : s.srRxValid = false) : RdrStep s s
  | trig (hpc : s.rdrPc = .srLoop) (hsub : s.rdrSub = .trig) : RdrStep s { s.putTrigger.drawFirst with
      rdC0 := decodeFrame s.params s.rdW 0, rdC1 := decodeFrame s.params s.rdW 1, rdrSub := .wrA }
  | store (hpc : s.rdrPc = .srLoop) (hsub : s.rdrSub = .wrA ∨ s.rdrSub = .wrB) : RdrStep s { s with
      mem := s.mem.write (snapTarget s) ((snapValue s).setWidth 16)
      rdrSub := if s.rdrSub = .wrA then .wrB else .chk }

/-- A number of OPN that names an operation runs it; 1001, the dispatch, names none (R102). -/
theorem runRdr_of_opn {s : State} {i : Instr} (h : decodeOpn (opnBits s) = .ok i) : runRdr exec s = exec i s := by
  have hne : opnBits s ≠ 0b1001 := fun h9 => by rw [h9] at h; cases h
  exact runWord_of_decode exec _ s i (by rw [rdrWord, if_neg hne]; exact h)

/-- Every TMP word that is not reserved runs the phase step, for some level and latch (R97, R98, R172). -/
theorem exec_of_tmp {b : BitVec 4} {i : Instr} (h : decodeTmp b = .ok i) :
    ∃ l m, ∀ s, exec i s = .next (s.phase l m) := by
  unfold decodeTmp at h
  split_ifs at h <;> cases h
  exacts [⟨true, .s1, fun _ => rfl⟩, ⟨false, .s2, fun _ => rfl⟩, ⟨true, .silent, fun _ => rfl⟩,
    ⟨false, .silent, fun _ => rfl⟩, ⟨true, .sf, fun _ => rfl⟩]

/-- In the two phase loops an RDR step runs a phase, or the operation that ends the loop (R28, R102). -/
theorem runRdr_of_phaseOpn {s t : State} {done : BitVec 4} {i : Instr} (hop : opnBits s = phaseOpn s done)
    (hdone : decodeOpn done = .ok i) (h : runRdr exec s = .next t) :
    (s.tmPc < nPh s.params ∧ ∃ l m, t = s.phase l m) ∨ (s.tmPc = nPh s.params ∧ exec i s = .next t) := by
  unfold phaseOpn at hop
  split_ifs at hop with hlt hend
  · obtain ⟨j, hj, hex⟩ := runWord_eq_next h
    rw [rdrWord, if_pos hop] at hj
    obtain ⟨l, m, hphase⟩ := exec_of_tmp hj
    exact .inl ⟨hlt, l, m, (Host.Outcome.next.inj ((hphase s).symm.trans hex)).symm⟩
  · exact .inr ⟨hend, runRdr_of_opn (hop ▸ hdone) ▸ h⟩
  · obtain ⟨j, hj, -⟩ := runWord_eq_next h
    rw [rdrWord, hop] at hj
    cases hj

/-- An RDR step that completes does one of these. -/
theorem rdrStep_of_runRdr {s t : State} (h : runRdr exec s = .next t) : RdrStep s t := by
  match hpc : s.rdrPc with
  | .tmInit =>
    rw [runRdr_of_opn (i := .tmInit) (by simp [opnBits, hpc, decodeOpn])] at h
    exact Host.Outcome.next.inj h ▸ .tmInit hpc
  | .tmProbe =>
    rw [runRdr_of_opn (i := .tmProbe) (by simp [opnBits, hpc, decodeOpn])] at h
    exact Host.Outcome.next.inj h ▸ .tmProbe hpc
  | .select =>
    rw [runRdr_of_opn (i := .bootSelect) (by simp [opnBits, hpc, decodeOpn])] at h
    cases hp : s.tmPresent with
    | true => exact Host.Outcome.next.inj ((if_pos hp).symm.trans h) ▸ .selectTm hpc hp
    | false => exact Host.Outcome.next.inj ((if_neg (Bool.eq_false_iff.1 hp)).symm.trans h) ▸ .selectSr hpc hp
  | .tmDetect =>
    rcases runRdr_of_phaseOpn (done := 0b0011) (by simp [opnBits, hpc]) rfl h with ⟨hlt, l, m, rfl⟩ | ⟨hend, hex⟩
    · exact .phase l m (.inl hpc) hlt
    · exact Host.Outcome.next.inj hex ▸ .detectEnd hpc hend
  | .tmLoop =>
    rcases runRdr_of_phaseOpn (done := 0b0100) (by simp [opnBits, hpc]) rfl h with ⟨hlt, l, m, rfl⟩ | ⟨hend, hex⟩
    · exact .phase l m (.inr hpc) hlt
    · exact Host.Outcome.next.inj ((execTmCommit_eq s).symm.trans hex) ▸ .commit hpc hend
  | .srInit =>
    rw [runRdr_of_opn (i := .srInit) (by simp [opnBits, hpc, decodeOpn])] at h
    cases ha : s.params.seqAvailable with
    | true => exact Host.Outcome.next.inj ((execSrInit_of_available ha).symm.trans h) ▸ .acquire hpc ha
    | false => exact Host.Outcome.next.inj ((execSrInit_of_unavailable ha).symm.trans h) ▸ .degrade hpc ha
  | .srLoop =>
    rw [runRdr_eq_exec s hpc] at h
    match hsub : s.rdrSub with
    | .chk =>
      rw [hsub] at h
      cases hv : s.srRxValid with
      | true => exact Host.Outcome.next.inj ((if_pos hv).symm.trans h) ▸ .pop hpc hsub hv
      | false => exact Host.Outcome.next.inj ((if_neg (Bool.eq_false_iff.1 hv)).symm.trans h) ▸ .wait hpc hsub hv
    | .trig =>
      rw [hsub] at h
      exact Host.Outcome.next.inj h ▸ .trig hpc hsub
    | .wrA =>
      rw [hsub] at h
      exact Host.Outcome.next.inj ((execSnapWr_eq s).symm.trans h) ▸ .store hpc (.inl hsub)
    | .wrB =>
      rw [hsub] at h
      exact Host.Outcome.next.inj ((execSnapWr_eq s).symm.trans h) ▸ .store hpc (.inr hsub)

/-! ### What a step of BE can do -/

/-- What a BE step can do: the update of BEW, and the level the output operation drives (R224). -/
inductive BeStep (s : State) : State → Prop
  | idle : BeStep s { s with beState := .idle, cnt := 0, port := 0, prevSel := s.lines.sel, out := noData }
  | hold (v : Nibble) : BeStep s { s with beState := .addressing, prevSel := s.lines.sel, out := v }
  | edge (v : Nibble) : BeStep s ((s.edge s.lines.sel).drive (.out v))

/-- A BE step that completes does one of these. -/
theorem beStep_of_runBe {s t : State} (h : runBe exec s = .next t) : BeStep s t := by
  rw [runBe_eq] at h
  split_ifs at h
  · exact Host.Outcome.next.inj h ▸ .idle
  · obtain ⟨v, hv⟩ := runWord_bowWord { s with beState := .addressing, prevSel := s.lines.sel }
    exact Host.Outcome.next.inj (hv.symm.trans h) ▸ .hold v
  · rw [show exec (.beEdge s.lines.sel) s = _ from execBeEdge_eq _ s, andThen_next] at h
    obtain ⟨v, hv⟩ := runWord_bowWord (s.edge s.lines.sel)
    exact Host.Outcome.next.inj (hv.symm.trans h) ▸ .edge v

/-! ### The store -/

/-- A store of a snapshot leaves the bits above it 0 in every word where they were (R46 b, R62). -/
theorem Memory.write_upper_bits {m : Memory} (hm : ∀ q, (m.read q).toNat < 4096) (p : Nat) (v : Snapshot) (q : Nat) :
    ((m.write p (v.setWidth 16)).read q).toNat < 4096 := by
  rw [Memory.read_write]
  split_ifs
  · rw [BitVec.toNat_setWidth_of_le (by decide)]
    exact snapshot_toNat_lt v
  · exact hm q

end Sys2Proof.Machine

namespace Sys2Proof.Safety

open Sys2Proof.Machine

/-! ### The owners of the registers (R42) -/

/-- Only the registers of SEQ, and the two flags it shares, may differ (R42). -/
def SeqFrame (s t : State) : Prop :=
  t = { s with srIsr := t.srIsr, srRxWord := t.srRxWord, srPc := t.srPc, srClk := t.srClk, srLatch := t.srLatch,
               srRxValid := t.srRxValid, srTrig := t.srTrig }

/-- Only the registers of BE may differ (R42). -/
def BeFrame (s t : State) : Prop :=
  t = { s with out := t.out, cnt := t.cnt, port := t.port, prevSel := t.prevSel, beState := t.beState }

/-- Only the registers of RDR, the two flags it shares, those of SEQ that SR.INIT sets and the model's counter of draws
may differ (R42). -/
def RdrFrame (s t : State) : Prop :=
  t = { s with mem := t.mem, tmS1 := t.tmS1, tmS2 := t.tmS2, tmSf := t.tmSf, tmSid := t.tmSid, rdW := t.rdW,
               rdC0 := t.rdC0, rdC1 := t.rdC1, rdFirst := t.rdFirst, rdrPc := t.rdrPc, rdrSub := t.rdrSub,
               tmPc := t.tmPc, ext6 := t.ext6, srOk := t.srOk, tmPresent := t.tmPresent, mode := t.mode,
               srRxValid := t.srRxValid, srTrig := t.srTrig, tmSel := t.tmSel, tmPwr := t.tmPwr, srPc := t.srPc,
               srClk := t.srClk, srLatch := t.srLatch, draws := t.draws }

/-- An operation of SEQ sets the frame flag and clears the trigger, never the reverse. -/
theorem exec_seqFrame {i : Instr} {s t : State} (hi : agentOf i = .seq) (h : exec i s = .next t) :
    SeqFrame s t ∧ (s.srRxValid = true → t.srRxValid = true) ∧ (t.srTrig = true → s.srTrig = true) := by
  cases i with
  | srSeqWait =>
    simp only [exec, execSrSeqWait] at h
    split at h
    · obtain rfl := Host.Outcome.next.inj h
      exact ⟨rfl, id, nofun⟩
    · obtain rfl := Host.Outcome.next.inj h
      exact ⟨rfl, id, id⟩
  | srSeqLatch =>
    obtain rfl := Host.Outcome.next.inj h
    exact ⟨rfl, id, id⟩
  | srSeqShift =>
    simp only [exec, execSrSeqShift] at h
    split at h
    · split_ifs at h
      · obtain rfl := Host.Outcome.next.inj h
        exact ⟨rfl, id, id⟩
      · obtain rfl := Host.Outcome.next.inj h
        exact ⟨rfl, fun _ => rfl, id⟩
      · obtain rfl := Host.Outcome.next.inj h
        exact ⟨rfl, id, id⟩
    · cases h
    · cases h
  | _ => cases hi

/-- An operation of BE writes the bus emulator's registers. -/
theorem exec_beFrame {i : Instr} {s t : State} (hi : agentOf i = .be) (h : exec i s = .next t) : BeFrame s t := by
  cases i with
  | beEdge e => exact Host.Outcome.next.inj ((execBeEdge_eq e s).symm.trans h) ▸ rfl
  | beOutDir pp | beOutBtn pp =>
    obtain ⟨snap, -, hk⟩ := orNoSnapshot_eq_next.1 h
    exact Host.Outcome.next.inj hk ▸ rfl
  | beIdle | beHold | beOutNone => exact Host.Outcome.next.inj h ▸ rfl
  | _ => cases hi

/-- An operation of RDR clears the frame flag and sets the trigger, never the reverse; SR.INIT alone touches the sequencer's
registers. -/
theorem exec_rdrFrame {i : Instr} {s t : State} (hi : agentOf i = .rdr) (h : exec i s = .next t) :
    RdrFrame s t ∧ (t.srRxValid = true → s.srRxValid = true) ∧ (s.srTrig = true → t.srTrig = true) ∧
      (i ≠ .srInit → t.srPc = s.srPc ∧ t.srClk = s.srClk ∧ t.srLatch = s.srLatch) := by
  cases i with
  | snapWr =>
    obtain rfl := Host.Outcome.next.inj ((execSnapWr_eq s).symm.trans h)
    exact ⟨rfl, id, id, fun _ => ⟨rfl, rfl, rfl⟩⟩
  | tmCommit =>
    obtain rfl := Host.Outcome.next.inj ((execTmCommit_eq s).symm.trans h)
    exact ⟨rfl, id, id, fun _ => ⟨rfl, rfl, rfl⟩⟩
  | tmPhS1 | tmPhS2 | tmPhHi | tmPhLo | tmPhSf =>
    rw [← Host.Outcome.next.inj h, State.phase_eq]
    exact ⟨rfl, id, id, fun _ => ⟨rfl, rfl, rfl⟩⟩
  | srInit =>
    cases ha : s.params.seqAvailable with
    | true =>
      obtain rfl := Host.Outcome.next.inj ((execSrInit_of_available ha).symm.trans h)
      exact ⟨rfl, nofun, fun _ => rfl, fun hne => absurd rfl hne⟩
    | false =>
      obtain rfl := Host.Outcome.next.inj ((execSrInit_of_unavailable ha).symm.trans h)
      exact ⟨rfl, id, id, fun hne => absurd rfl hne⟩
  | srPollPop =>
    simp only [exec, execSrPollPop] at h
    split at h
    · obtain rfl := Host.Outcome.next.inj h
      exact ⟨rfl, nofun, id, fun _ => ⟨rfl, rfl, rfl⟩⟩
    · obtain rfl := Host.Outcome.next.inj h
      exact ⟨rfl, id, id, fun _ => ⟨rfl, rfl, rfl⟩⟩
  | bootSelect =>
    simp only [exec, execBootSelect] at h
    split at h <;>
    · obtain rfl := Host.Outcome.next.inj h
      exact ⟨rfl, id, id, fun _ => ⟨rfl, rfl, rfl⟩⟩
  | srTrig =>
    obtain rfl := Host.Outcome.next.inj h
    exact ⟨rfl, id, fun _ => rfl, fun _ => ⟨rfl, rfl, rfl⟩⟩
  | tmInit | tmDetectEnd | tmProbe =>
    obtain rfl := Host.Outcome.next.inj h
    exact ⟨rfl, id, id, fun _ => ⟨rfl, rfl, rfl⟩⟩
  | _ => cases hi

/-- Settles O48, agent by agent. -/
theorem operationsWriteOnlyTheirAgentsRegisters : Obligations.OperationsWriteOnlyTheirAgentsRegisters :=
  fun _ _ _ h => ⟨fun hi => exec_seqFrame hi h, fun hi => exec_beFrame hi h, fun hi => exec_rdrFrame hi h⟩

/-- A SEQ step writes the registers of SEQ only (R34, R42). -/
theorem runSeq_seqFrame {s t : State} (h : runSeq exec s = .next t) : SeqFrame s t := by
  cases hok : s.srOk with
  | false => exact Host.Outcome.next.inj ((runSeq_of_not_ok exec s hok).symm.trans h) ▸ rfl
  | true =>
    rw [runSeq_eq_exec s hok] at h
    exact (exec_seqFrame (by cases s.srPc <;> rfl) h).1

/-! ### The mode and the positions of the reader (R36, R200) -/

/-- The mode that belongs to a position of the reader (R36, R200). -/
def modeAt : RdrPc → Mode
  | .tmInit | .tmProbe | .select => .boot
  | .tmDetect | .tmLoop => .tm
  | .srInit | .srLoop => .sr

theorem modeAt_eq_boot {pc : RdrPc} : modeAt pc = .boot ↔ pc = .tmInit ∨ pc = .tmProbe ∨ pc = .select := by
  cases pc <;> decide

theorem modeAt_eq_tm {pc : RdrPc} : modeAt pc = .tm ↔ pc = .tmDetect ∨ pc = .tmLoop := by
  cases pc <;> decide

/-- The invariant's two clauses on the mode say that the position gives it. -/
theorem Inv.mode_eq {s : State} (h : Inv s) : s.mode = modeAt s.rdrPc := by
  have hboot := h.boot_positions.trans modeAt_eq_boot.symm
  have htm := h.tm_positions.trans modeAt_eq_tm.symm
  cases hm : modeAt s.rdrPc with
  | boot => exact hboot.2 hm
  | tm => exact htm.2 hm
  | sr =>
    rw [hm] at hboot htm
    cases hs : s.mode with
    | boot => cases hboot.1 hs
    | tm => cases htm.1 hs
    | sr => rfl

/-! ### Every step keeps the invariant (R46) -/

/-- Taking a choice writes `pending` or `draws` alone. -/
theorem Inv.kept_by_takeChoice {s : State} (h : Inv s) : Inv s.takeChoice.2 := by
  unfold State.takeChoice
  split <;> exact { h with }

/-- While the sequencer is acquired, no step makes a second token. -/
theorem Inv.one_token_of_run {c : Choice} {s t : State} (h : Inv s) (hok : s.srOk = true)
    (hrun : runChoice exec c s = .next t) : tokens t ≤ 1 := by
  obtain ⟨u, hu, hstep⟩ := runChoice_loopStep (polling_of_inv h hok) c
  obtain rfl := Host.Outcome.next.inj (hu.symm.trans hrun)
  exact hstep.tokens_kept ▸ h.one_token

/-- SEQ moves the token on while it is acquired, and does nothing before. -/
theorem Inv.kept_by_runSeq {s t : State} (h : Inv s) (hrun : runSeq exec s = .next t) : Inv t := by
  cases hok : s.srOk with
  | false => exact Host.Outcome.next.inj ((runSeq_of_not_ok exec s hok).symm.trans hrun) ▸ h
  | true =>
    have hframe : t = _ := runSeq_seqFrame hrun
    have hone := h.one_token_of_run (c := .seq) hok hrun
    rw [hframe] at hone ⊢
    exact { h with one_token := hone, stalled := fun hno => nomatch hok.symm.trans hno }

/-- BE keeps the port half the count, and the count bounded. -/
theorem Inv.kept_by_runBe {s t : State} (h : Inv s) (hrun : runBe exec s = .next t) : Inv t := by
  cases beStep_of_runBe hrun with
  | idle => exact { h with port_is_half := (Nat.zero_div 2).symm, cnt_bounded := Nat.zero_le _ }
  | hold v => exact { h with }
  | edge v => exact { h with port_is_half := rfl, cnt_bounded := Nat.min_le_right _ _ }

/-- Outside the shift-register loop the sequencer is not acquired. -/
theorem Inv.not_ok {s : State} (h : Inv s) (hpc : s.rdrPc ≠ .srLoop) : s.srOk = false :=
  Bool.eq_false_iff.2 fun hok => hpc (h.ok_in_loop hok)

/-- Until the sequencer is acquired SR.POLL does not start. -/
theorem Inv.sub_chk {s : State} (h : Inv s) (hok : s.srOk = false) : s.rdrSub = .chk :=
  Decidable.by_contra fun hsub => nomatch hok.symm.trans (h.poll_in_loop hsub)

/-- A move that stays within a mode keeps the mode of its position. -/
theorem Inv.mode_at {s : State} (h : Inv s) {pc pc' : RdrPc} (hpc : s.rdrPc = pc) (hsame : modeAt pc = modeAt pc') :
    s.mode = modeAt pc' :=
  h.mode_eq.trans (hpc ▸ hsame)

/-- At a position outside the two phase loops the phase index is 0. -/
theorem Inv.phase_zero_at {s : State} (h : Inv s) {pc : RdrPc} (hpc : s.rdrPc = pc) (hout : pc ≠ .tmDetect ∧ pc ≠ .tmLoop) :
    s.tmPc = 0 :=
  h.phase_zero (hpc ▸ hout.1) (hpc ▸ hout.2)

/-- During start-up the sequencer is not acquired and nothing is stored. -/
theorem Inv.nothing_stored {s : State} (h : Inv s) {pc : RdrPc} (hpc : s.rdrPc = pc)
    (hstart : pc ≠ .srLoop ∧ pc ≠ .tmLoop) : s.srOk = false ∧ s.mem = [] :=
  have hok := h.not_ok (hpc ▸ hstart.1)
  ⟨hok, h.unwritten (hpc ▸ hstart.2) hok⟩

/-- A move of the reader during start-up: to any position, with that position's mode and the phase index at 0. -/
theorem Inv.moveTo {s : State} (h : Inv s) {pc : RdrPc} (hpc : s.rdrPc = pc) (hstart : pc ≠ .srLoop ∧ pc ≠ .tmLoop)
    (pc' : RdrPc) {m : Mode} {n : Nat} (hm : m = modeAt pc') (hn : n = 0) :
    Inv { s with rdrPc := pc', mode := m, tmPc := n } :=
  have ⟨hok, hmem⟩ := h.nothing_stored hpc hstart
  { h with
    phase_range := hn ▸ Nat.zero_le _
    phase_zero := fun _ _ => hn
    ok_in_loop := fun hok' => nomatch hok.symm.trans hok'
    boot_positions := hm ▸ modeAt_eq_boot
    tm_positions := hm ▸ modeAt_eq_tm
    second_idle := fun _ => hmem ▸ rfl
    unwritten := fun _ _ => hmem }

/-- RDR: each operation of start-up is a move, and SR.INIT may put the first token; the phases only count; SR.POLL hands the
token on and stores once the sequencer is acquired. -/
theorem Inv.kept_by_runRdr {s t : State} (h : Inv s) (hrun : runRdr exec s = .next t) : Inv t := by
  have hone (hok : s.srOk = true) : tokens t ≤ 1 := h.one_token_of_run (c := .rdr) hok hrun
  cases rdrStep_of_runRdr hrun with
  | tmInit hpc => exact { h.moveTo hpc (by decide) .tmProbe (h.mode_at hpc rfl) rfl with }
  | tmProbe hpc =>
    exact { h.moveTo hpc (by decide) .select (h.mode_at hpc rfl) (h.phase_zero_at hpc (by decide)) with }
  | selectTm hpc hp => exact h.moveTo hpc (by decide) .tmDetect rfl rfl
  | selectSr hpc hp => exact h.moveTo hpc (by decide) .srInit rfl (h.phase_zero_at hpc (by decide))
  | phase l m hpc hlt =>
    rw [State.phase_eq]
    exact { h with phase_range := hlt, phase_zero := fun hdet hloop => absurd hpc (not_or.2 ⟨hdet, hloop⟩) }
  | detectEnd hpc hend => exact { h.moveTo hpc (by decide) .tmLoop (h.mode_at hpc rfl) rfl with }
  | commit hpc hend =>
    exact { h with
      mem_wf := Memory.write_keeps_wf _ 0 _ (by decide) h.mem_wf
      upper_bits := Memory.write_upper_bits h.upper_bits 0 _
      phase_range := Nat.zero_le _
      phase_zero := fun _ _ => rfl
      second_idle := fun hm => (Memory.read_write _ 0 1 _).trans (h.second_idle hm)
      unwritten := fun hne => absurd hpc hne }
  | acquire hpc ha =>
    exact { h.moveTo hpc (by decide) .srLoop (h.mode_at hpc rfl) (h.phase_zero_at hpc (by decide)) with
      one_token := by simp [tokens_eq, slotToken, pollToken]
      stalled := nofun
      ok_in_loop := fun _ => rfl
      poll_in_loop := fun _ => rfl
      unwritten := nofun }
  | degrade hpc ha =>
    obtain ⟨hok, -⟩ := h.nothing_stored hpc (by decide)
    rw [← hok, ← h.sub_chk hok]
    exact h.moveTo hpc (by decide) .srLoop (h.mode_at hpc rfl) (h.phase_zero_at hpc (by decide))
  | pop hpc hsub hv =>
    have hok : s.srOk = true := Bool.of_not_eq_false fun hno => nomatch hv.symm.trans (h.stalled hno).2.2
    exact { h with
      one_token := hone hok
      stalled := fun hno => nomatch hok.symm.trans hno
      poll_in_loop := fun _ => hok }
  | wait hpc hsub hv => exact h
  | trig hpc hsub =>
    have hok : s.srOk = true := h.poll_in_loop (hsub ▸ nofun)
    exact { h with
      one_token := hone hok
      stalled := fun hno => nomatch hok.symm.trans hno
      poll_in_loop := fun _ => hok }
  | store hpc hsub =>
    have hok : s.srOk = true := h.poll_in_loop (hsub.elim (· ▸ nofun) (· ▸ nofun))
    have hsr : s.mode = .sr := h.mode_eq.trans (hpc ▸ rfl)
    exact { h with
      mem_wf := Memory.write_keeps_wf _ _ _ (snapTarget_lt s) h.mem_wf
      upper_bits := Memory.write_upper_bits h.upper_bits _ _
      one_token := hone hok
      poll_in_loop := fun _ => hok
      second_idle := fun hm => absurd hsr hm
      unwritten := fun _ hno => nomatch hok.symm.trans hno }

/-- The step of every agent keeps the invariant. -/
theorem Inv.kept_by_runChoice {c : Choice} {s t : State} (h : Inv s) (hrun : runChoice exec c s = .next t) : Inv t := by
  cases c with
  | env l => exact Host.Outcome.next.inj hrun ▸ { h with }
  | seq => exact h.kept_by_runSeq hrun
  | rdr => exact h.kept_by_runRdr hrun
  | be => exact h.kept_by_runBe hrun

/-- Settles O52, by the chosen agent. -/
theorem everyStepKeepsTheInvariant : Obligations.EveryStepKeepsTheInvariant :=
  fun _ _ h hstep => h.kept_by_takeChoice.kept_by_runChoice hstep

/-- Settles O53, clause by clause. -/
theorem resetMeetsTheInvariant : Obligations.ResetMeetsTheInvariant where
  port_is_half := rfl
  cnt_bounded := Nat.zero_le _
  mem_wf := reset_mem_wf
  upper_bits := fun _ => Nat.zero_lt_succ _
  one_token := Nat.zero_le _
  stalled := fun _ => ⟨rfl, rfl, rfl⟩
  phase_range := Nat.zero_le _
  phase_zero := fun _ _ => rfl
  ok_in_loop := nofun
  poll_in_loop := fun hsub => absurd rfl hsub
  boot_positions := modeAt_eq_boot (pc := .tmInit)
  tm_positions := modeAt_eq_tm (pc := .tmInit)
  second_idle := fun _ => rfl
  unwritten := fun _ _ => rfl

/-- Settles O60. -/
theorem resetHasTheStatedValues : Obligations.ResetHasTheStatedValues :=
  ⟨rfl, rfl, rfl, rfl, rfl, rfl, rfl, rfl, rfl, rfl, rfl, rfl, rfl, rfl, rfl⟩

/-! ### The mode after the selection (R46 e) -/

/-- Taking a choice leaves the mode. -/
theorem takeChoice_mode (s : State) : s.takeChoice.2.mode = s.mode := by
  unfold State.takeChoice
  split <;> rfl

/-- BOOT.SELECT alone writes the mode, and it runs in mode `BOOT` only. -/
theorem Inv.mode_kept {c : Choice} {s t : State} (h : Inv s) (hm : s.mode ≠ .boot) (hrun : runChoice exec c s = .next t) :
    t.mode = s.mode := by
  cases c with
  | env l => exact Host.Outcome.next.inj hrun ▸ rfl
  | seq =>
    have hframe : t = _ := runSeq_seqFrame hrun
    rw [hframe]
  | rdr =>
    cases rdrStep_of_runRdr hrun with
    | selectTm hpc | selectSr hpc => exact absurd (h.boot_positions.2 (.inr (.inr hpc))) hm
    | phase l m => rw [State.phase_eq]
    | _ => rfl
  | be => cases beStep_of_runBe hrun <;> rfl

/-- Settles O55. -/
theorem selectedModeNeverChanges : Obligations.SelectedModeNeverChanges :=
  fun s _ h hm hstep =>
    (h.kept_by_takeChoice.mode_kept ((takeChoice_mode s).symm ▸ hm) hstep).trans (takeChoice_mode s)

/-! ### The idle bus (R46 g) -/

/-- In IDLE no data is shown, and the count and the port are 0. -/
def IdleShowsNoData (s : State) : Prop :=
  s.beState = .idle → s.out = 0b1111#4 ∧ s.cnt = 0 ∧ s.port = 0

/-- Every BE step establishes it, whatever held before. -/
theorem idleShowsNoData_of_runBe {s t : State} (h : runBe exec s = .next t) : IdleShowsNoData t := by
  cases beStep_of_runBe h with
  | idle => exact fun _ => ⟨rfl, rfl, rfl⟩
  | hold v => exact nofun
  | edge v => exact nofun

/-- The other agents touch none of its registers. -/
theorem IdleShowsNoData.kept_by_runChoice {c : Choice} {s t : State} (h : IdleShowsNoData s)
    (hrun : runChoice exec c s = .next t) : IdleShowsNoData t := by
  cases c with
  | env l => exact Host.Outcome.next.inj hrun ▸ h
  | seq =>
    have hframe : t = _ := runSeq_seqFrame hrun
    rw [hframe]
    exact h
  | rdr =>
    cases rdrStep_of_runRdr hrun with
    | phase l m =>
      rw [State.phase_eq]
      exact fun hidle => h hidle
    | _ => exact fun hidle => h hidle
  | be => exact idleShowsNoData_of_runBe hrun

/-- Taking a choice touches none of its registers. -/
theorem IdleShowsNoData.kept_by_takeChoice {s : State} (h : IdleShowsNoData s) : IdleShowsNoData s.takeChoice.2 := by
  unfold State.takeChoice
  split <;> exact h

/-- Settles O56: a BE step establishes the implication, and the step of every agent keeps it. -/
theorem idleStateShowsNoData : Obligations.IdleStateShowsNoData := by
  refine ⟨fun s t cs hp hstep => ?_, fun s t h hstep => ?_⟩
  · rw [step_of_pending s .be cs hp] at hstep
    exact idleShowsNoData_of_runBe hstep
  · exact IdleShowsNoData.kept_by_runChoice (IdleShowsNoData.kept_by_takeChoice h) hstep

end Sys2Proof.Safety

/-! PROOFS. The memory family (20_memory.md): what a store does (O45), which operations store (O46) and the snapshots that do
not exist (O40). -/

namespace Sys2Proof.Machine

/-! ### A store, read back (R61, R62) -/

/-- The index stored to holds the zero-extended snapshot (R62). -/
theorem Memory.read_write_same (m : Memory) (p : Nat) (v : SnapWord) : (m.write p v).read p = v := by
  rw [Memory.read_write, if_pos rfl]

/-- Every other index is left alone (R62). -/
theorem Memory.read_write_of_ne (m : Memory) {p q : Nat} (h : q ≠ p) (v : SnapWord) :
    (m.write p v).read q = m.read q := by
  rw [Memory.read_write, if_neg h]

/-- MemRead gives back the snapshot that MemWrite stored there: the zero-extension loses no bit (R61, R62). -/
theorem memRead_of_write (s : State) {p : Nat} (hp : p < 2) (v : Snapshot) :
    memRead p { s with mem := s.mem.write p (v.setWidth 16) } = some v := by
  rw [memRead_of_lt _ hp, Memory.read_write_same, snapshot_of_any_word_width 16 (by decide)]

/-- Settles O45: the store at an index that exists is `Memory.write` and changes no other field. -/
theorem storeIsReadBackWhole : Obligations.StoreIsReadBackWhole := by
  intro s p v hp
  refine ⟨_, memWrite_of_lt s v hp, memRead_of_write s hp v, ?_, fun q hq => Memory.read_write_of_ne _ hq _,
    Memory.write_keeps_wf _ p _ hp, rfl⟩
  rw [Memory.read_write_same, BitVec.toNat_setWidth_of_le (by decide)]
  exact snapshot_toNat_lt v

/-! ### A snapshot that does not exist (R61, U24) -/

/-- MemRead answers no value exactly for an index of 2 or more. -/
theorem memRead_eq_none_iff (p : Nat) (s : State) : memRead p s = none ↔ 2 ≤ p := by
  unfold memRead
  split
  · exact iff_of_false nofun (Nat.not_le.2 ‹_›)
  · exact iff_of_true rfl (Nat.not_lt.1 ‹_›)

/-- Settles O40: an output operation at such a port has no snapshot to go on with. -/
theorem missingSnapshotIsRefused : Obligations.MissingSnapshotIsRefused := by
  refine ⟨fun s p => memRead_eq_none_iff p s, fun s pp hpp => ?_⟩
  have hnone : memRead pp.toNat s = none := (memRead_eq_none_iff _ s).2 hpp
  constructor
  · rw [exec, execBeOutDir, hnone, orNoSnapshot_none]
  · rw [exec, execBeOutBtn, hnone, orNoSnapshot_none]

end Sys2Proof.Machine

namespace Sys2Proof.Safety

open Sys2Proof.Machine

/-! ### Which operations store (R62, R240) -/

/-- The store is no register of SEQ (R42). -/
theorem SeqFrame.mem_eq {s t : State} (h : SeqFrame s t) : t.mem = s.mem := by
  unfold SeqFrame at h
  rw [h]

/-- The store is no register of BE (R42). -/
theorem BeFrame.mem_eq {s t : State} (h : BeFrame s t) : t.mem = s.mem := by
  unfold BeFrame at h
  rw [h]

/-- Among the operations of RDR, which owns the store, only the two that call MemWrite change it. -/
theorem exec_rdr_keeps_mem {i : Instr} {s t : State} (hi : agentOf i = .rdr) (h : exec i s = .next t)
    (hsnap : i ≠ .snapWr) (hcommit : i ≠ .tmCommit) : t.mem = s.mem := by
  cases i with
  | snapWr => exact absurd rfl hsnap
  | tmCommit => exact absurd rfl hcommit
  | tmPhS1 | tmPhS2 | tmPhHi | tmPhLo | tmPhSf => rw [← Host.Outcome.next.inj h, State.phase_eq]
  | srInit | srPollPop | bootSelect =>
    simp only [exec, execSrInit, execSrPollPop, execBootSelect] at h
    split at h <;> exact Host.Outcome.next.inj h ▸ rfl
  | srTrig | tmInit | tmDetectEnd | tmProbe => exact Host.Outcome.next.inj h ▸ rfl
  | _ => cases hi

/-- Settles O46, agent by agent. -/
theorem onlyTwoOperationsWriteTheStore : Obligations.OnlyTwoOperationsWriteTheStore := by
  intro i s t h hsnap hcommit
  cases hi : agentOf i with
  | seq =>
    obtain ⟨hframe, -, -⟩ := exec_seqFrame hi h
    exact hframe.mem_eq
  | be => exact (exec_beFrame hi h).mem_eq
  | rdr => exact exec_rdr_keeps_mem hi h hsnap hcommit

end Sys2Proof.Safety

/-! PROOFS. The encoding family (30_encoding.md): decoder and encoder (O1, O2, O5), the phase table (O3, O4), the words that
SEQ and RDR form (O9, O10), and the frame word (O24). -/

namespace Sys2Proof.Machine

/-! ### Words of three bits (R95, R96) -/

/-- The bits of a word of three bits, from the lowest. -/
theorem getLsbD_word3 (x y z : Bool) (k : Nat) : (word3 x y z).getLsbD k = [z, y, x].getD k false := by
  match k with
  | 0 | 1 | 2 | 3 => cases x <;> cases y <;> cases z <;> rfl
  | k + 4 => exact BitVec.getLsbD_of_ge _ _ (Nat.le_add_left 4 k)

/-- A word without a bit above its format is made of its three bits. -/
theorem word3_of_bits {b : BitVec 4} (h : b.getLsbD 3 = false) :
    word3 (b.getLsbD 2) (b.getLsbD 1) (b.getLsbD 0) = b := by
  apply BitVec.eq_of_getLsbD_eq
  intro i hi
  rw [getLsbD_word3]
  interval_cases i
  · rfl
  · rfl
  · rfl
  · exact h.symm

/-- The field `pp` of a BOW word formed from a port is that port (R96). -/
theorem word3_port (pp : BitVec 2) (s : Bool) :
    (word3 (pp.getLsbD 1) (pp.getLsbD 0) s).extractLsb' 1 2 = pp := by
  apply BitVec.eq_of_getLsbD_eq
  intro i hi
  rw [BitVec.getLsbD_extractLsb', decide_eq_true hi, Bool.true_and, getLsbD_word3]
  interval_cases i
  · rfl
  · rfl

/-- A BOW word is formed from its field `pp` and its bit `s` (R96). -/
theorem word3_of_port {b : BitVec 4} (h : b.getLsbD 3 = false) :
    word3 ((b.extractLsb' 1 2).getLsbD 1) ((b.extractLsb' 1 2).getLsbD 0) (b.getLsbD 0) = b := by
  rw [BitVec.getLsbD_extractLsb', BitVec.getLsbD_extractLsb']
  exact word3_of_bits h

/-- Ports 2 and 3, which hold no data, are those whose high bit is set: BOW `1--` (R96). -/
theorem two_le_port_iff (pp : BitVec 2) : 2 ≤ pp.toNat ↔ pp.getLsbD 1 = true := by
  revert pp
  decide

/-- The high bit of the port is bit 2 of the BOW word (R96). -/
theorem two_le_bowPort_iff (b : BitVec 4) : 2 ≤ (b.extractLsb' 1 2).toNat ↔ b.getLsbD 2 = true :=
  (two_le_port_iff _).trans (by rw [BitVec.getLsbD_extractLsb']; rfl)

/-! ### Decode of encode (R109) -/

/-- The operation of the BEW word `e d s` (R95). -/
theorem decodeBew_word3 (e d s : Bool) :
    decodeBew (word3 e d s) = .ok (if e then .beIdle d s else if d then .beEdge s else .beHold s) := by
  simp only [decodeBew, getLsbD_word3]
  cases e <;> cases d <;> rfl

/-- The operation of the BOW word formed from a port and a level (R96). -/
theorem decodeBow_word3 (pp : BitVec 2) (s : Bool) : decodeBow (word3 (pp.getLsbD 1) (pp.getLsbD 0) s) =
    .ok (if 2 ≤ pp.toNat then .beOutNone pp s else if s then .beOutDir pp else .beOutBtn pp) := by
  simp only [decodeBow, word3_port, getLsbD_word3, two_le_port_iff]
  cases pp.getLsbD 1 <;> cases s <;> rfl

/-- Settles O1: the words without operands are looked up, and those of BEW and BOW are read back bit by bit. -/
theorem decodeOfEncodeGivesBackTheOperation : Obligations.DecodeOfEncodeGivesBackTheOperation := by
  intro i hwf
  cases i with
  | beIdle d s => exact decodeBew_word3 true d s
  | beEdge s => exact decodeBew_word3 false true s
  | beHold s => exact decodeBew_word3 false false s
  | beOutDir pp =>
    have hport : pp.toNat < 2 := of_decide_eq_true hwf
    exact (decodeBow_word3 pp true).trans (congrArg _ (if_neg hport.not_ge))
  | beOutBtn pp =>
    have hport : pp.toNat < 2 := of_decide_eq_true hwf
    exact (decodeBow_word3 pp false).trans (congrArg _ (if_neg hport.not_ge))
  | beOutNone pp s =>
    have hport : 2 ≤ pp.toNat := of_decide_eq_true hwf
    exact (decodeBow_word3 pp s).trans (congrArg _ (if_pos hport))
  | _ => rfl

/-! ### Encode of decode (R109) -/

theorem encode_of_decodeOpn {b : BitVec 4} {i : Instr} (h : decodeOpn b = .ok i) :
    WellFormed i = true ∧ encode i = ⟨.opn, b⟩ := by
  unfold decodeOpn at h
  split_ifs at h with hb hb hb hb hb hb hb hb hb <;> cases h <;> exact ⟨rfl, hb ▸ rfl⟩

theorem encode_of_decodeTmp {b : BitVec 4} {i : Instr} (h : decodeTmp b = .ok i) :
    WellFormed i = true ∧ encode i = ⟨.tmp, b⟩ := by
  unfold decodeTmp at h
  split_ifs at h with hb hb hb hb hb <;> cases h <;> exact ⟨rfl, hb ▸ rfl⟩

theorem encode_of_decodeSrs {b : BitVec 4} {i : Instr} (h : decodeSrs b = .ok i) :
    WellFormed i = true ∧ encode i = ⟨.srs, b⟩ := by
  unfold decodeSrs at h
  split_ifs at h with hb hb hb <;> cases h <;> exact ⟨rfl, hb ▸ rfl⟩

theorem encode_of_decodeBew {b : BitVec 4} {i : Instr} (h : decodeBew b = .ok i) :
    WellFormed i = true ∧ encode i = ⟨.bew, b⟩ := by
  unfold decodeBew at h
  split_ifs at h with htop he hd
  all_goals
    cases h
    have hb := word3_of_bits (Bool.eq_false_iff.2 htop)
  · exact ⟨rfl, congrArg (DecodeWord.mk .bew) (by rwa [he] at hb)⟩
  · exact ⟨rfl, congrArg (DecodeWord.mk .bew) (by rwa [Bool.eq_false_iff.2 he, hd] at hb)⟩
  · exact ⟨rfl, congrArg (DecodeWord.mk .bew) (by rwa [Bool.eq_false_iff.2 he, Bool.eq_false_iff.2 hd] at hb)⟩

theorem encode_of_decodeBow {b : BitVec 4} {i : Instr} (h : decodeBow b = .ok i) :
    WellFormed i = true ∧ encode i = ⟨.bow, b⟩ := by
  have hport := two_le_bowPort_iff b
  unfold decodeBow at h
  split_ifs at h with htop hhigh hs
  all_goals
    cases h
    have hb := word3_of_port (Bool.eq_false_iff.2 htop)
  · exact ⟨decide_eq_true (hport.2 hhigh), congrArg (DecodeWord.mk .bow) hb⟩
  · exact ⟨decide_eq_true (not_le.1 (mt hport.1 hhigh)), congrArg (DecodeWord.mk .bow) (by rwa [hs] at hb)⟩
  · exact ⟨decide_eq_true (not_le.1 (mt hport.1 hhigh)),
      congrArg (DecodeWord.mk .bow) (by rwa [Bool.eq_false_iff.2 hs] at hb)⟩

/-- Settles O2, format by format. -/
theorem encodeOfDecodeGivesBackTheWord : Obligations.EncodeOfDecodeGivesBackTheWord := by
  rintro ⟨fmt, b⟩ i h
  cases fmt with
  | opn => exact encode_of_decodeOpn h
  | tmp => exact encode_of_decodeTmp h
  | srs => exact encode_of_decodeSrs h
  | bew => exact encode_of_decodeBew h
  | bow => exact encode_of_decodeBow h

/-- Settles O5, word by word. -/
theorem writtenWordsDecodeToTheirOperation : Obligations.WrittenWordsDecodeToTheirOperation :=
  ⟨rfl, rfl, rfl, rfl, rfl, rfl, rfl, rfl, rfl, rfl⟩

/-! ### The phase table (R97, R98) -/

theorem mem_silentPairs {p : Nat} {e : BitVec 4} (h : e ∈ silentPairs p) : e = 0b100#4 ∨ e = 0b000#4 := by
  induction p with
  | zero => cases h
  | succ p ih =>
    simp only [silentPairs, List.mem_cons] at h
    obtain rfl | rfl | h := h
    · exact .inl rfl
    · exact .inr rfl
    · exact ih h

/-- No entry of a phase table is reserved (R98). -/
theorem decode_of_mem_phaseTable {p : Nat} {e : BitVec 4} (h : e ∈ phaseTable p) : ∃ i, decode ⟨.tmp, e⟩ = .ok i := by
  simp only [phaseTable, List.mem_cons, List.mem_append, List.not_mem_nil, or_false] at h
  obtain rfl | rfl | h | rfl := h
  · exact ⟨.tmPhS1, rfl⟩
  · exact ⟨.tmPhS2, rfl⟩
  · obtain rfl | rfl := mem_silentPairs h
    · exact ⟨.tmPhHi, rfl⟩
    · exact ⟨.tmPhLo, rfl⟩
  · exact ⟨.tmPhSf, rfl⟩

/-- Settles O3: the eight TMP patterns are checked one by one, the tables by their entries. -/
theorem reservedPhaseWordsStandInNoTable : Obligations.ReservedPhaseWordsStandInNoTable :=
  ⟨by decide, fun _ _ he => decode_of_mem_phaseTable he⟩

/-- The pair j of the silent phases: high, then low (R97). -/
theorem silentPairs_getElem? {p j : Nat} (h : j < p) :
    (silentPairs p)[2 * j]? = some 0b100#4 ∧ (silentPairs p)[2 * j + 1]? = some 0b000#4 := by
  induction p generalizing j with
  | zero => cases h
  | succ p ih =>
    cases j with
    | zero => exact ⟨rfl, rfl⟩
    | succ j => exact ih (Nat.lt_of_succ_lt_succ h)

/-- The phase table holds the silent pairs from its third entry on (R97). -/
theorem phaseTable_getElem?_of_silent {p k : Nat} (h : k < 2 * p) : (phaseTable p)[k + 2]? = (silentPairs p)[k]? :=
  List.getElem?_append_left (h.trans_eq (silentPairs_length p).symm)

/-- The final sample is taken after the last silent pair (R97). -/
theorem phaseTable_getElem?_last (p : Nat) : (phaseTable p)[2 * p + 2]? = some 0b111#4 := by
  have happ : (silentPairs p ++ [0b111#4])[(silentPairs p).length]? = some 0b111#4 := List.getElem?_concat_length
  rwa [silentPairs_length] at happ

/-- Settles O4. -/
theorem phaseTableHasTheSpecifiedShape : Obligations.PhaseTableHasTheSpecifiedShape := by
  refine ⟨⟨rfl, rfl, rfl, rfl, rfl⟩, fun p => ⟨?length, rfl, rfl, fun j hj => ?pair, ?last⟩⟩
  case length => exact phaseTable_length { Params.default with tmUnlockPairs := p }
  case pair =>
    obtain ⟨hhigh, hlow⟩ := silentPairs_getElem? hj
    rw [← phaseTable_getElem?_of_silent (by omega)] at hhigh hlow
    exact ⟨by rwa [Nat.add_comm], by rwa [show 3 + 2 * j = 2 * j + 1 + 2 by omega]⟩
  case last => exact Nat.add_comm .. ▸ phaseTable_getElem?_last p

/-! ### The words that SEQ and RDR form (R100, R102) -/

/-- Settles O9. -/
theorem slotWordFollowsTheSequencerPosition : Obligations.SlotWordFollowsTheSequencerPosition := by
  intro s
  exact ⟨fun h => by rw [srsWord, h]; rfl, fun h => by rw [srsWord, h]; rfl, fun k h => by rw [srsWord, h]; rfl⟩

/-- While `tm_pc` is in its range, a phase loop forms 1001 until its last phase is done (R28, R102). -/
theorem phaseOpn_of_le {s : State} (h : s.tmPc ≤ nPh s.params) (done : BitVec 4) :
    phaseOpn s done = if s.tmPc = nPh s.params then done else 0b1001 := by
  obtain hlt | hend := h.lt_or_eq
  · rw [phaseOpn, if_pos hlt, if_neg hlt.ne]
  · rw [phaseOpn, if_neg hend.not_lt, if_pos hend, if_pos hend]

/-- A phase loop whose end is another number forms 1001 only where a phase is next (R102). -/
theorem tmPc_lt_of_phaseOpn {s : State} {done : BitVec 4} (hdone : done ≠ 0b1001) (h : phaseOpn s done = 0b1001) :
    s.tmPc < nPh s.params := by
  unfold phaseOpn at h
  split_ifs at h with hlt
  · exact hlt
  · exact absurd h hdone
  · cases h

/-- OPN 1001 is formed only where a phase is next (R102). -/
theorem tmPc_lt_of_dispatch {s : State} (h : opnBits s = 0b1001#4) : s.tmPc < nPh s.params := by
  revert h
  unfold opnBits
  cases s.rdrPc with
  | tmDetect | tmLoop => exact tmPc_lt_of_phaseOpn (by decide)
  | srLoop => cases s.rdrSub <;> exact nofun
  | select | tmInit | tmProbe | srInit => exact nofun

/-- OPN 1001 dispatches to the phase-table entry at `tm_pc`, which is an operation (R98, R102). -/
theorem dispatch_of_opnBits {s : State} (h : opnBits s = 0b1001#4) : ∃ e i,
    (phaseTable s.params.tmUnlockPairs)[s.tmPc]? = some e ∧ rdrWord s = ⟨.tmp, e⟩ ∧ decode ⟨.tmp, e⟩ = .ok i := by
  have hlt : s.tmPc < (phaseTable s.params.tmUnlockPairs).length :=
    (tmPc_lt_of_dispatch h).trans_eq (phaseTable_length s.params).symm
  have hget := List.getElem?_eq_getElem hlt
  obtain ⟨i, hi⟩ := decode_of_mem_phaseTable (List.getElem_mem hlt)
  have hentry := List.getD_eq_getElem _ 0b110#4 hlt
  exact ⟨_, i, hget, (if_pos h).trans (congrArg (DecodeWord.mk .tmp) hentry), hi⟩

/-- Settles O10, by the reader's position. -/
theorem operationNumberFollowsTheReaderPosition : Obligations.OperationNumberFollowsTheReaderPosition := by
  intro s hrange
  refine ⟨?number, ?bound, dispatch_of_opnBits, fun h => if_neg h⟩
  case number =>
    unfold opnBits
    cases s.rdrPc with
    | tmDetect | tmLoop => exact phaseOpn_of_le hrange _
    | srLoop => cases s.rdrSub <;> rfl
    | select | tmInit | tmProbe | srInit => rfl
  case bound =>
    unfold opnBits
    cases s.rdrPc with
    | tmDetect | tmLoop =>
      simp only [phaseOpn_of_le hrange]
      split_ifs <;> decide
    | srLoop => cases s.rdrSub <;> exact of_decide_eq_true rfl
    | select | tmInit | tmProbe | srInit => exact of_decide_eq_true rfl

/-! ### The frame word (R104) -/

/-- Settles O24: a field's position is at most 11, so it is read from the low 24 bits. -/
theorem upperFramePositionsAreIgnored : Obligations.UpperFramePositionsAreIgnored := by
  intro c w v ctl hctl hlow
  apply snapshot_ext
  intro f
  have hpos := srPosOf_lt c f
  rw [getLsbD_decodeFrame c w ctl f hctl, getLsbD_decodeFrame c v ctl f hctl, hlow _ (by omega)]

end Sys2Proof.Machine

/-! PROOFS. The snapshot family (40_snapshot_mux.md): the store of one decoded snapshot (O21), one button per toggled level
in both readers (O23, O31), and idle lines (O32). -/

namespace Sys2Proof

/-- What well-formed parameters satisfy, clause by clause (R148, R178, R172, U21). -/
theorem Params.wellFormed_iff (c : Params) : c.WellFormed = true ↔
    c.srPos.toList.Nodup ∧ c.tmPlace.toList.map Prod.fst = tmGrouping ∧ c.tmPlace.toList.Nodup ∧
      2 * nPorts ≤ c.cntSat ∧ c.tmIdPhase < 2 * c.tmUnlockPairs + 3 := by
  simp only [Params.WellFormed, Bool.and_eq_true, decide_eq_true_eq, and_assoc]

end Sys2Proof

namespace Sys2Proof.Machine

/-! ### SNAP.WR (R131) -/

/-- The controller of a store is the one `rd_first` names, then the other one. -/
theorem snapTarget_eq (s : State) :
    snapTarget s = (if s.rdrSub = .wrA then s.rdFirst else !s.rdFirst).toNat := by
  unfold snapTarget
  split
  · rfl
  · cases s.rdFirst <;> rfl

/-- The value of a store is the snapshot of its controller. -/
theorem snapValue_of_target {s : State} {c : Bool} (h : snapTarget s = c.toNat) :
    snapValue s = if c = false then s.rdC0 else s.rdC1 := by
  rw [snapValue, h]
  cases c <;> rfl

/-- Settles O21: SNAP.WR is one write of the store at its target. -/
theorem snapWriteStoresOneSnapshot : Obligations.SnapWriteStoresOneSnapshot := by
  intro s
  refine ⟨_, execSnapWr_eq s, rfl, fun c hc => ?_⟩
  have htarget : snapTarget s = c.toNat := (snapTarget_eq s).trans (congrArg _ hc.symm)
  rw [htarget, snapValue_of_target htarget]
  exact ⟨Memory.read_write_same .., fun p hp => Memory.read_write_of_ne _ hp _⟩

/-! ### Fields and their places (R21, R148, R178) -/

/-- A bit of a snapshot holds one field: the snapshot with that field alone tells it apart. -/
theorem fieldBit_injective : Function.Injective fieldBit := by
  intro f g h
  have hbit := getLsbD_packFields (fun x => decide (x = f)) g
  rw [← h, getLsbD_packFields, decide_eq_true rfl] at hbit
  exact (of_decide_eq_true hbit.symm).symm

/-- Two fields have different serial positions (R148). -/
theorem srPosOf_injective {c : Params} (hnodup : c.srPos.toList.Nodup) : Function.Injective (srPosOf c) := by
  intro f g h
  have hbit : (fieldBit f).val = (fieldBit g).val := hnodup.getElem_inj_iff.1 h
  exact fieldBit_injective (Fin.ext hbit)

/-- `TM_PLACE` is listed by the fields' bits, and the bit of `X3` is past its end (R178, R181). -/
theorem tmPlaceOf_eq_getElem? (c : Params) (f : Field) : tmPlaceOf c f = c.tmPlace.toList[(fieldBit f).val]? := by
  rw [Vector.getElem?_toList]
  cases f <;> rfl

/-- Two fields that are placed have different places (R178). -/
theorem eq_of_tmPlaceOf_eq {c : Params} (hnodup : c.tmPlace.toList.Nodup) {f g : Field} {q : TmPoint × Fin 6}
    (hf : tmPlaceOf c f = some q) (hg : tmPlaceOf c g = some q) : g = f := by
  rw [tmPlaceOf_eq_getElem?] at hf hg
  obtain ⟨hlt, -⟩ := List.getElem?_eq_some_iff.1 hg
  exact fieldBit_injective (Fin.ext ((List.getElem?_inj hlt hnodup).1 (hg.trans hf.symm)))

/-- The fields sampled at the final point are those that `ext6` gates (R178, R180). -/
theorem extendedField_iff_final {c : Params} (hgroup : c.tmPlace.toList.map Prod.fst = tmGrouping) {f : Field}
    {pt : TmPoint} {n : Fin 6} (hf : tmPlaceOf c f = some (pt, n)) : extendedField f = true ↔ pt = .final := by
  have hpt : tmGrouping[(fieldBit f).val]? = some pt := by
    rw [← hgroup, List.getElem?_map, ← tmPlaceOf_eq_getElem?, hf, Option.map_some]
  cases f <;> cases hpt <;> decide

/-! ### Frame words: one level, one button (R133, R134) -/

/-- Settles O23: in the one controller a field reads its own position, in the other a position of the other parity. -/
theorem frameDecodingIsInjectivePerButton : Obligations.FrameDecodingIsInjectivePerButton := by
  intro c w v f ctl hwf hctl hdiff
  obtain ⟨hnodup, -⟩ := c.wellFormed_iff.1 hwf
  constructor
  · intro g
    have hpos := srPosOf_lt c g
    rw [getLsbD_decodeFrame c w ctl g hctl, getLsbD_decodeFrame c v ctl g hctl, Ne, Bool.not_inj_iff]
    calc w.getLsbD (2 * (srPosOf c g).val + ctl) ≠ v.getLsbD (2 * (srPosOf c g).val + ctl)
        ↔ 2 * (srPosOf c g).val + ctl = 2 * (srPosOf c f).val + ctl := hdiff _ (by omega)
      _ ↔ srPosOf c g = srPosOf c f := by rw [Fin.ext_iff]; omega
      _ ↔ g = f := (srPosOf_injective hnodup).eq_iff
  · apply snapshot_ext
    intro g
    have hpos := srPosOf_lt c g
    have hsame : w.getLsbD (2 * (srPosOf c g).val + (1 - ctl)) = v.getLsbD (2 * (srPosOf c g).val + (1 - ctl)) :=
      not_ne_iff.1 (mt (hdiff _ (by omega)).1 (by omega))
    rw [getLsbD_decodeFrame c w _ g (by omega), getLsbD_decodeFrame c v _ g (by omega), hsame]

/-- All serial levels of a controller high: no button of it is pressed (R134, R151). -/
theorem decodeFrame_of_idle (c : Params) (w : FrameWord) {ctl : Nat} (hctl : ctl < 2)
    (hidle : ∀ k, k < 16 → w.getLsbD (2 * k + ctl) = true) : decodeFrame c w ctl = 0 := by
  apply snapshot_ext
  intro f
  have hpos := srPosOf_lt c f
  rw [getLsbD_decodeFrame c w ctl f hctl, hidle _ (by omega)]
  exact BitVec.getLsbD_zero.symm

/-! ### Latches: one line, one button (R106, R133, R134) -/

/-- A placed field reads its line in its sample, gated by `ext6` where it is an extended field (R106, R180). -/
theorem getLsbD_placeTm_of_place {c : Params} {f : Field} {pt : TmPoint} {n : Fin 6} (hf : tmPlaceOf c f = some (pt, n))
    (p1 p2 pf : TmSample) (ext6 : Bool) : (placeTm c p1 p2 pf ext6).getLsbD (fieldBit f) =
      ((ext6 || !extendedField f) && (pickSample pt p1 p2 pf).getLsbD n) := by
  rw [placeTm, getLsbD_packFields, hf]

/-- A field without a place is never pressed (R106, R181). -/
theorem getLsbD_placeTm_of_no_place {c : Params} {f : Field} (hf : tmPlaceOf c f = none) (p1 p2 pf : TmSample)
    (ext6 : Bool) : (placeTm c p1 p2 pf ext6).getLsbD (fieldBit f) = false := by
  rw [placeTm, getLsbD_packFields, hf]

/-- Toggling the lines `d` at one sampling point toggles them in that point's sample alone. -/
theorem pickSample_toggle (pt q : TmPoint) (p1 p2 pf d : TmSample) :
    pickSample q (if pt = .first then p1 ^^^ d else p1) (if pt = .second then p2 ^^^ d else p2)
      (if pt = .final then pf ^^^ d else pf) =
    if q = pt then pickSample q p1 p2 pf ^^^ d else pickSample q p1 p2 pf := by
  cases pt <;> cases q <;> rfl

/-- A line of a sample changes exactly where it is the line toggled, at the point toggled. -/
theorem pickSample_toggle_ne_iff {pt q : TmPoint} {n m : Fin 6} (p1 p2 pf : TmSample) {d : TmSample}
    (hd : ∀ j, j < 6 → (d.getLsbD j = true ↔ j = n.val)) :
    (pickSample q p1 p2 pf).getLsbD m ≠
      (pickSample q (if pt = .first then p1 ^^^ d else p1) (if pt = .second then p2 ^^^ d else p2)
        (if pt = .final then pf ^^^ d else pf)).getLsbD m ↔ (q, m) = (pt, n) := by
  have hxor : ∀ a b : Bool, a ≠ (a ^^ b) ↔ b = true := by decide
  rw [pickSample_toggle, Prod.mk.injEq, Fin.ext_iff, ← hd m m.isLt]
  by_cases hq : q = pt
  · rw [if_pos hq, BitVec.getLsbD_xor, hxor, and_iff_right hq]
  · rw [if_neg hq]
    exact iff_of_false (fun h => h rfl) (fun h => hq h.1)

/-- Two gated levels differ where the gate is open and the levels differ. -/
theorem and_ne_and_iff : ∀ gate a b : Bool, (gate && a) ≠ (gate && b) ↔ gate = true ∧ a ≠ b := by
  decide

/-- Settles O31: the toggle is seen by the field that has the place, and by it where its gate is open. -/
theorem latchDecodingIsInjectivePerButton : Obligations.LatchDecodingIsInjectivePerButton := by
  intro c f pt n p1 p2 pf d ext6 hwf hf hd g
  obtain ⟨-, hgroup, hnodup, -⟩ := c.wellFormed_iff.1 hwf
  cases hg : tmPlaceOf c g with
  | none =>
    rw [getLsbD_placeTm_of_no_place hg, getLsbD_placeTm_of_no_place hg]
    have hne : g ≠ f := by rintro rfl; cases hg.symm.trans hf
    exact iff_of_false (fun h => h rfl) (fun h => hne h.1)
  | some place =>
    obtain ⟨q, m⟩ := place
    have hplace : (q, m) = (pt, n) ↔ g = f :=
      ⟨fun h => eq_of_tmPlaceOf_eq hnodup hf (hg.trans (congrArg some h)),
        fun h => Option.some.inj (hg.symm.trans (h ▸ hf))⟩
    have hgate : g = f → ((ext6 || !extendedField g) = true ↔ (pt = .final → ext6 = true)) := by
      rintro rfl
      rw [← extendedField_iff_final hgroup hf]
      cases ext6 <;> simp
    rw [getLsbD_placeTm_of_place hg, getLsbD_placeTm_of_place hg, and_ne_and_iff, pickSample_toggle_ne_iff p1 p2 pf hd,
      hplace, and_comm]
    exact and_congr_right hgate

/-- Three samples with no line driven low: no button is pressed (R134, R184 a). -/
theorem placeTm_zero (c : Params) (ext6 : Bool) : placeTm c 0#6 0#6 0#6 ext6 = 0#12 := by
  apply snapshot_ext
  intro f
  rw [BitVec.getLsbD_zero]
  cases hf : tmPlaceOf c f with
  | none => exact getLsbD_placeTm_of_no_place hf ..
  | some place =>
    obtain ⟨pt, n⟩ := place
    have hpick : pickSample pt 0#6 0#6 0#6 = 0#6 := by cases pt <;> rfl
    rw [getLsbD_placeTm_of_place hf, hpick, BitVec.getLsbD_zero, Bool.and_false]

/-- Settles O32: the complement of idle levels is 0 in each reader. -/
theorem idleLinesDecodeToAllReleased : Obligations.IdleLinesDecodeToAllReleased := by
  refine ⟨fun c w ctl hctl hidle => decodeFrame_of_idle c w hctl hidle, fun s h1 h2 hf => ?_⟩
  rw [commitValue, h1, h2, hf, BitVec.not_allOnes]
  exact placeTm_zero s.params s.ext6

end Sys2Proof.Machine

/-! PROOFS. The shift-register family (41_shift_register_reader.md): the sequencer's operations (O11 to O15) and its whole
frame (O16), the reader's operations (O18 to O20) and its whole poll (O22), and the nominal lengths (O51). -/

namespace Sys2Proof.Machine

/-! ### The sequencer's operations (R142, R143, R144) -/

/-- SR.SEQ.WAIT with a trigger (R142). -/
theorem execSrSeqWait_of_trigger {s : State} (h : s.srTrig = true) :
    execSrSeqWait s = .next { s with srTrig := false, srPc := .latch } :=
  if_pos h

/-- Settles O11. -/
theorem waitTakesTheTriggerOrStalls : Obligations.WaitTakesTheTriggerOrStalls := by
  intro s
  by_cases h : s.srTrig = true
  · rw [if_pos h]
    exact execSrSeqWait_of_trigger h
  · rw [if_neg h]
    exact if_neg h

/-- SR.SEQ.LATCH always completes (R143). -/
theorem execSrSeqLatch_eq (s : State) :
    execSrSeqLatch s = .next { s with srLatch := !s.params.srLatchActive, srPc := .shift 0 } :=
  rfl

/-- Settles O12. -/
theorem latchSlotPulsesTheLatchLine : Obligations.LatchSlotPulsesTheLatchLine :=
  fun s => ⟨execSrSeqLatch_eq s, rfl⟩

/-- A clock slot shifts the sample in and leaves the clock line idle (R144). -/
theorem State.clockSlot_eq (s : State) :
    s.clockSlot = { s with srIsr := shiftIn s.srIsr s.lines.srDin, srClk := s.params.srClkIdle } :=
  rfl

/-- A slot pulses the clock once, unless it stalls on a full receive queue (R144). -/
theorem drives_srSeqShift {s : State} {k : Fin srFrameClocks} (hpc : s.srPc = .shift k) :
    drives .srSeqShift s = if k = lastSlot ∧ s.srRxValid = true then [] else clockPulse s.params := by
  simp only [drives, hpc]

/-- Settles O13: only the last slot delivers. -/
theorem shiftSlotShiftsInTheSample : Obligations.ShiftSlotShiftsInTheSample := by
  intro s k hpc hempty
  have hdrive : ¬(k = lastSlot ∧ s.srRxValid = true) := fun ⟨hk, hv⟩ => by
    rw [hempty (hk.trans lastSlot_eq)] at hv
    cases hv
  refine ⟨(drives_srSeqShift hpc).trans (if_neg hdrive), ?_⟩
  have hlow := getLsbD_shiftIn_low s.srIsr s.lines.srDin
  have hhigh := getLsbD_shiftIn_high s.srIsr s.lines.srDin
  by_cases hk : k = 15
  · subst hk
    exact ⟨_, execSrSeqShift_last hpc (hempty rfl), hlow, fun j _ => hhigh j, rfl⟩
  · refine ⟨_, execSrSeqShift_of_ne_last hpc hk, hlow, fun j _ => hhigh j, ?_⟩
    simp only [if_neg hk, State.clockSlot_eq]

/-- Settles O14. -/
theorem fullReceiveQueueStallsTheSequencer : Obligations.FullReceiveQueueStallsTheSequencer := by
  intro s hpc hv
  refine ⟨?_, (drives_srSeqShift hpc).trans (if_pos ⟨lastSlot_eq.symm, hv⟩)⟩
  simp [exec, execSrSeqShift, hpc, hv]

/-- Settles O15. -/
theorem shiftOutsideTheFrameStops : Obligations.ShiftOutsideTheFrameStops := by
  rintro s (hpc | hpc)
  · rw [exec, execSrSeqShift, hpc]
  · rw [exec, execSrSeqShift, hpc]

/-! ### The samples of a frame in the receive register (R64, R91, R144) -/

/-- After some slots, at most sixteen, the sample of each stands in the register as many places below the top as slots have
followed it. -/
theorem getLsbD_foldl_shiftIn (isr : FrameWord) (xs : List SrSample) (hlen : xs.length ≤ 16) {k c : Nat}
    (hk : k < xs.length) (hc : c < 2) :
    (xs.foldl shiftIn isr).getLsbD (32 - 2 * (xs.length - k) + c) = (xs.getD k 0).getLsbD c := by
  induction xs using List.reverseRecOn with
  | nil => cases hk
  | append_singleton xs x ih =>
    rw [List.length_append, List.length_singleton] at hlen hk ⊢
    rw [List.foldl_append, List.foldl_cons, List.foldl_nil]
    by_cases hlast : k = xs.length
    · subst hlast
      rw [show 32 - 2 * (xs.length + 1 - xs.length) + c = 30 + c by omega, getLsbD_shiftIn_high,
        List.getD_append_right _ _ _ _ le_rfl, Nat.sub_self, List.getD_cons_zero]
    · have hlt : k < xs.length := by omega
      rw [getLsbD_shiftIn_low _ _ _ (by omega),
        show 32 - 2 * (xs.length + 1 - k) + c + 2 = 32 - 2 * (xs.length - k) + c by omega, ih (by omega) hlt,
        List.getD_append _ _ _ _ hlt]

/-! ### A whole frame (R113, R150) -/

/-- A run takes its first step. -/
theorem run_succ_of_step {s t : State} (h : step s = .next t) (n : Nat) : core.run (n + 1) s = core.run n t := by
  have hcore : core.step s = .next t := h
  simp only [Host.Core.run, hcore]

/-- A pending SEQ choice of an acquired sequencer runs the operation of its position (R100). -/
theorem step_seq_of_pending {s : State} {pc : SrPc} {cs : List Choice} (hp : s.pending = .seq :: cs)
    (hok : s.srOk = true) (hpc : s.srPc = pc) : step s = exec (slotInstr pc) { s with pending := cs } :=
  hpc ▸ (step_of_pending s .seq cs hp).trans (runSeq_eq_exec { s with pending := cs } hok)

/-- The state when a triggered frame has reached its first slot (R142, R143). -/
def State.startFrame (s : State) (cs : List Choice) : State :=
  { s with pending := cs, srTrig := false, srLatch := !s.params.srLatchActive, srPc := .shift 0 }

/-- A trigger starts a frame: two SEQ steps go to the first slot (R113, R142, R143). -/
theorem run_startFrame {s : State} {cs : List Choice} (hpc : s.srPc = .wait) (hok : s.srOk = true)
    (htrig : s.srTrig = true) (hp : s.pending = .seq :: .seq :: cs) (n : Nat) :
    core.run (n + 2) s = core.run n (s.startFrame cs) := by
  have hwait : step s = .next { s with pending := .seq :: cs, srTrig := false, srPc := .latch } :=
    (step_seq_of_pending hp hok hpc).trans (execSrSeqWait_of_trigger htrig)
  have hlatch := step_seq_of_pending (s := { s with pending := .seq :: cs, srTrig := false, srPc := .latch }) rfl hok rfl
  rw [run_succ_of_step hwait, run_succ_of_step (hlatch.trans (execSrSeqLatch_eq _))]
  rfl

/-- The state when ENV has presented a sample and a slot has shifted it in and gone to the position `pc` (R113, R144). -/
def State.takeSlot (s : State) (l : Lines) (x : SrSample) (pc : SrPc) (cs : List Choice) : State :=
  { s with
    pending := cs
    lines := { l with srDin := x }
    srIsr := shiftIn s.srIsr x
    srClk := s.params.srClkIdle
    srPc := pc }

/-- A pending sample and SEQ choice are two steps, the second of them the slot. -/
theorem run_slot {s t : State} {k : Fin srFrameClocks} {l : Lines} {cs : List Choice} (hpc : s.srPc = .shift k)
    (hok : s.srOk = true) (hp : s.pending = .env l :: .seq :: cs)
    (hslot : execSrSeqShift { s with pending := cs, lines := l } = .next t) (n : Nat) :
    core.run (n + 2) s = core.run n t := by
  have henv : step s = .next { s with pending := .seq :: cs, lines := l } := step_of_pending s _ _ hp
  have hseq := step_seq_of_pending (s := { s with pending := .seq :: cs, lines := l }) rfl hok hpc
  rw [run_succ_of_step henv, run_succ_of_step (hseq.trans hslot)]

/-- The state a frame leaves when its last slots have taken the given samples: the word is delivered (R144, R150). -/
def State.deliver (s : State) (l : Lines) (samples : List SrSample) (rest : List Choice) : State :=
  { s with
    pending := rest
    lines := { l with srDin := samples.getLastD 0 }
    srIsr := samples.foldl shiftIn s.srIsr
    srRxWord := samples.foldl shiftIn s.srIsr
    srRxValid := true
    srClk := s.params.srClkIdle
    srPc := .wait }

/-- A slot before the last leaves the rest of the frame to deliver. -/
theorem deliver_takeSlot (s : State) (l : Lines) (x y : SrSample) (ys : List SrSample) (pc : SrPc) (cs rest : List Choice) :
    (s.takeSlot l x pc cs).deliver l (y :: ys) rest = s.deliver l (x :: y :: ys) rest := by
  simp only [State.deliver, State.takeSlot, List.foldl_cons, List.getLastD_cons]

/-- The choices of some slots of a frame: for each sample ENV presents it and SEQ takes the slot (R113). -/
def slotChoices (l : Lines) (samples : List SrSample) : List Choice :=
  samples.flatMap fun x => [.env { l with srDin := x }, .seq]

/-- From any slot on, as many samples as slots are left complete the frame and deliver it (R144, R150). -/
theorem run_slots (l : Lines) (rest : List Choice) (samples : List SrSample) {s : State} {k : Fin srFrameClocks}
    (hk : k.val + samples.length = 16) (hpc : s.srPc = .shift k) (hok : s.srOk = true) (hv : s.srRxValid = false)
    (hp : s.pending = slotChoices l samples ++ rest) :
    core.run (2 * samples.length) s = .next (s.deliver l samples rest) := by
  induction samples generalizing s k with
  | nil => exact absurd hk (slot_lt k).ne
  | cons x xs ih =>
    rw [List.length_cons] at hk
    cases xs with
    | nil =>
      obtain rfl : k = lastSlot := Fin.ext (Nat.succ.inj hk)
      exact run_slot hpc hok hp (execSrSeqShift_last hpc hv) 0
    | cons y ys =>
      rw [List.length_cons] at hk
      have hne : k ≠ lastSlot := by
        rintro rfl
        have hval : lastSlot.val = 15 := rfl
        omega
      have hnext : (k + 1).val = k.val + 1 := Fin.val_add_one_of_lt' (show k.val + 1 < 16 by omega)
      calc core.run (2 * (ys.length + 1) + 2) s
          = core.run (2 * (ys.length + 1)) (s.takeSlot l x (.shift (k + 1)) (slotChoices l (y :: ys) ++ rest)) :=
            run_slot hpc hok hp (execSrSeqShift_of_ne_last hpc hne) _
        _ = .next ((s.takeSlot l x (.shift (k + 1)) (slotChoices l (y :: ys) ++ rest)).deliver l (y :: ys) rest) :=
            ih (k := k + 1) (by rw [hnext, List.length_cons]; omega) rfl hok hv rfl
        _ = .next (s.deliver l (x :: y :: ys) rest) := congrArg _ (deliver_takeSlot ..)

/-- The last of sixteen samples is that of slot 15. -/
theorem getLastD_of_length {samples : List SrSample} (hlen : samples.length = 16) :
    samples.getLastD 0 = samples.getD 15 0 := by
  rw [List.getLastD_eq_getLast?, List.getLast?_eq_getElem?, hlen, List.getD_eq_getElem?_getD]

/-- Settles O16: two steps to the first slot, then the sixteen slots; each sample stands where the slots have shifted it. -/
theorem frameDeliversTheSixteenSamples : Obligations.FrameDeliversTheSixteenSamples := by
  intro s l samples rest hlen hok hpc htrig hv hp
  have hstart := run_startFrame (cs := slotChoices l samples ++ rest) hpc hok htrig hp 32
  have hslots := run_slots l rest samples (s := s.startFrame (slotChoices l samples ++ rest)) (k := 0)
    ((Nat.zero_add _).trans hlen) rfl hok hv rfl
  rw [hlen] at hslots
  refine ⟨_, hstart.trans hslots, fun k hk c hc => ?_, ?_⟩
  · have hbit := getLsbD_foldl_shiftIn s.srIsr samples hlen.le (hk.trans_eq hlen.symm) hc
    rwa [hlen, show 32 - 2 * (16 - k) + c = 2 * k + c by omega] at hbit
  · rw [← getLastD_of_length hlen, hpc]
    rfl

/-! ### The reader's operations (R145, R146, R147) -/

/-- Settles O18, by the platform's answer. -/
theorem initialisationProgramsTheSequencer : Obligations.InitialisationProgramsTheSequencer := by
  intro s
  refine ⟨?_, rfl⟩
  cases ha : s.params.seqAvailable with
  | true => exact execSrInit_of_available ha
  | false => exact execSrInit_of_unavailable ha

/-- SR.POLL.POP with a frame (R146). -/
theorem execSrPollPop_of_frame {s : State} (h : s.srRxValid = true) :
    execSrPollPop s = .next { s with rdW := s.srRxWord, srRxValid := false, rdrSub := .trig } :=
  if_pos h

/-- Settles O19. -/
theorem pollTakesTheFrameOrChangesNothing : Obligations.PollTakesTheFrameOrChangesNothing := by
  intro s
  by_cases h : s.srRxValid = true
  · rw [if_pos h]
    exact execSrPollPop_of_frame h
  · rw [if_neg h]
    exact if_neg h

/-- SR.TRIG always completes (R147). -/
theorem execSrTrig_eq (s : State) : execSrTrig s = .next { s with
    srTrig := true
    rdFirst := Config.rdFirst s.draws
    draws := s.draws + 1
    rdC0 := decodeFrame s.params s.rdW 0
    rdC1 := decodeFrame s.params s.rdW 1
    rdrSub := .wrA } :=
  rfl

/-- Settles O20: each controller's snapshot is the decoded frame word. -/
theorem triggerDecodesBothControllers : Obligations.TriggerDecodesBothControllers :=
  fun s => ⟨_, execSrTrig_eq s, fun f => getLsbD_decodeFrame s.params s.rdW 0 f (by decide),
    fun f => getLsbD_decodeFrame s.params s.rdW 1 f (by decide), rfl⟩

/-! ### A whole poll (R70, R131, R149) -/

/-- The word a store writes for a controller: its decoded snapshot, zero-extended (R26, R131). -/
def State.snapWord (s : State) (c : Bool) : SnapWord :=
  (if c = false then s.rdC0 else s.rdC1).setWidth 16

/-- A field of a stored word is that of the snapshot, for the word has room for it (R62). -/
theorem getLsbD_snapWord (s : State) (c : Bool) (f : Field) :
    (s.snapWord c).getLsbD (fieldBit f) = (if c = false then s.rdC0 else s.rdC1).getLsbD (fieldBit f) := by
  have hf := fieldBit_lt f
  rw [State.snapWord, BitVec.getLsbD_setWidth, decide_eq_true (show (fieldBit f).val < 16 by omega),
    Bool.true_and]

/-- The first store of a poll writes the word `rd_first` names (R131). -/
theorem execSnapWr_first {s : State} (h : s.rdrSub = .wrA) : execSnapWr s = .next { s with
    mem := s.mem.write s.rdFirst.toNat (s.snapWord s.rdFirst), rdrSub := .wrB } := by
  have htarget : snapTarget s = s.rdFirst.toNat := (snapTarget_eq s).trans (by rw [if_pos h])
  rw [execSnapWr_eq, htarget, snapValue_of_target htarget, if_pos h, State.snapWord]

/-- The second store writes the other word (R131). -/
theorem execSnapWr_second {s : State} (h : s.rdrSub ≠ .wrA) : execSnapWr s = .next { s with
    mem := s.mem.write (!s.rdFirst).toNat (s.snapWord !s.rdFirst), rdrSub := .chk } := by
  have htarget : snapTarget s = (!s.rdFirst).toNat := (snapTarget_eq s).trans (by rw [if_neg h])
  rw [execSnapWr_eq, htarget, snapValue_of_target htarget, if_neg h, State.snapWord]

/-- The store after both words are written, the one of `d` first. -/
def Memory.writeBoth (m : Memory) (v : Bool → SnapWord) (d : Bool) : Memory :=
  (m.write d.toNat (v d)).write (!d).toNat (v !d)

/-- In either order both words are new. -/
theorem Memory.read_writeBoth (m : Memory) (v : Bool → SnapWord) (d c : Bool) :
    (m.writeBoth v d).read c.toNat = v c := by
  obtain rfl | rfl := Bool.eq_or_eq_not c d
  · rw [writeBoth, Memory.read_write_of_ne _ (by cases c <;> decide), Memory.read_write_same]
  · rw [writeBoth, Memory.read_write_same]

/-- No third word is written. -/
theorem Memory.read_writeBoth_of_le (m : Memory) (v : Bool → SnapWord) (d : Bool) {p : Nat} (hp : 2 ≤ p) :
    (m.writeBoth v d).read p = m.read p := by
  have hne (c : Bool) : p ≠ c.toNat := (c.toNat_lt.trans_le hp).ne'
  rw [writeBoth, Memory.read_write_of_ne _ (hne _), Memory.read_write_of_ne _ (hne _)]

/-- Between the two writes exactly the word of `d` is the new one. -/
theorem Memory.read_write_first (m : Memory) (v : Bool → SnapWord) (d : Bool) (p : Nat) :
    (m.write d.toNat (v d)).read p = if p = d.toNat then (m.writeBoth v d).read p else m.read p := by
  rw [Memory.read_write]
  split_ifs with hp
  · rw [hp, Memory.read_writeBoth]
  · rfl

/-- Settles O22: SR.POLL.POP and SR.TRIG decode the frame, then the two stores write both words in the drawn order. -/
theorem pollStoresBothSnapshots : Obligations.PollStoresBothSnapshots := by
  intro s _ hv
  obtain ⟨s2, htrig, hc0, hc1, hs2⟩ :=
    triggerDecodesBothControllers { s with rdW := s.srRxWord, srRxValid := false, rdrSub := .trig }
  have hsub : s2.rdrSub = .wrA := by rw [hs2]
  have hmem : s2.mem = s.mem := by rw [hs2]
  have hboth := Memory.read_writeBoth s2.mem s2.snapWord s2.rdFirst
  refine ⟨_, s2, _, _, execSrPollPop_of_frame hv, htrig, execSnapWr_first hsub, execSnapWr_second nofun,
    fun f => ?first, fun f => ?second, fun p _ => ?between, fun p hp => ?others, ?frame⟩
  case first => exact (congrArg (·.getLsbD (fieldBit f)) (hboth false)).trans ((getLsbD_snapWord s2 false f).trans (hc0 f))
  case second => exact (congrArg (·.getLsbD (fieldBit f)) (hboth true)).trans ((getLsbD_snapWord s2 true f).trans (hc1 f))
  case between => exact hmem ▸ Memory.read_write_first s2.mem s2.snapWord s2.rdFirst p
  case others => exact hmem ▸ Memory.read_writeBoth_of_le s2.mem s2.snapWord s2.rdFirst hp
  case frame => rw [hs2]

/-! ### The nominal lengths (R150, R302, R303) -/

/-- Every phase lasts one settle time (R172, R303). -/
theorem waitNs_of_decodeTmp {b : BitVec 4} {i : Instr} (c : Params) (h : decodeTmp b = .ok i) : waitNs c i = c.settleNs := by
  unfold decodeTmp at h
  split_ifs at h <;> cases h <;> rfl

/-- Every entry of a phase table lasts one settle time. -/
theorem phaseNs_of_mem (c : Params) {p : Nat} {e : BitVec 4} (h : e ∈ phaseTable p) : Safety.phaseNs c e = c.settleNs := by
  obtain ⟨i, hi⟩ := decode_of_mem_phaseTable h
  rw [Safety.phaseNs, hi]
  exact waitNs_of_decodeTmp c hi

/-- Settles O51. -/
theorem nominalLengthsAddUp : Obligations.NominalLengthsAddUp := by
  intro c
  constructor
  · intro hlatch
    rw [waitNs, waitNs, hlatch, ← Nat.add_mul]
  · have hconst : ∀ n ∈ (phaseTable c.tmUnlockPairs).map (Safety.phaseNs c), n = c.settleNs := by
      rintro _ hn
      obtain ⟨e, he, rfl⟩ := List.mem_map.1 hn
      exact phaseNs_of_mem c he
    rw [List.sum_eq_card_nsmul _ _ hconst, List.length_map, phaseTable_length, smul_eq_mul]

end Sys2Proof.Machine

/-! PROOFS. The toggle-multiplex family (42_toggle_multiplex_reader.md): the initialisation (O25), the phase operations (O26),
the commit (O27), the end of the detection pass (O28), the select waveform (O29) and a whole poll (O30). -/

namespace Sys2Proof.Machine

open Sys2Proof.Safety

/-! ### The operations at the ends of the phase loops (R171, R183) -/

/-- Settles O25. -/
theorem toggleInitialisationDrivesItsLines : Obligations.ToggleInitialisationDrivesItsLines :=
  fun _ => rfl

/-- Settles O28. -/
theorem detectionEndComputesTheFlag : Obligations.DetectionEndComputesTheFlag :=
  fun _ => rfl

/-! ### The phase operations (R172 to R177) -/

/-- Settles O26: the five operations are the phase step for five levels and latches. -/
theorem phaseOperationsDriveSampleAndAdvance : Obligations.PhaseOperationsDriveSampleAndAdvance := by
  intro s i l m hmem
  have hphase : exec i s = .next (s.phase l m) := by
    simp only [List.mem_cons, Prod.mk.injEq, List.not_mem_nil, or_false] at hmem
    obtain ⟨rfl, rfl, rfl⟩ | ⟨rfl, rfl, rfl⟩ | ⟨rfl, rfl, rfl⟩ | ⟨rfl, rfl, rfl⟩ | ⟨rfl, rfl, rfl⟩ := hmem
    all_goals rfl
  rw [hphase, State.phase_eq]

/-! ### TM.COMMIT (R106, R179, R180) -/

/-- The stored word has room for every field of the snapshot (R62). -/
theorem getLsbD_setWidth_fieldBit (v : Snapshot) (f : Field) :
    (v.setWidth 16).getLsbD (fieldBit f) = v.getLsbD (fieldBit f) := by
  have hf := fieldBit_lt f
  rw [BitVec.getLsbD_setWidth, decide_eq_true (show (fieldBit f).val < 16 by omega), Bool.true_and]

/-- A line of a complemented sample is the complement of the line (R106, R179). -/
theorem getLsbD_pickSample_not (pt : TmPoint) (p1 p2 pf : TmSample) (n : Fin 6) :
    (pickSample pt (~~~ p1) (~~~ p2) (~~~ pf)).getLsbD n = !(pickSample pt p1 p2 pf).getLsbD n := by
  have hnot (x : TmSample) : (~~~ x).getLsbD n = !x.getLsbD n := by
    rw [BitVec.getLsbD_not, decide_eq_true n.isLt, Bool.true_and]
  cases pt with
  | first => exact hnot p1
  | second => exact hnot p2
  | final => exact hnot pf

/-- The bit of `X3`, the highest of a snapshot, is never set by the toggle-multiplex reader (R106, R181). -/
theorem placeTm_toNat_lt (c : Params) (p1 p2 pf : TmSample) (ext6 : Bool) : (placeTm c p1 p2 pf ext6).toNat < 2048 := by
  have hx3 := getLsbD_placeTm_of_no_place (c := c) (f := .x3) rfl p1 p2 pf ext6
  have hmsb : (placeTm c p1 p2 pf ext6).msb = false := (BitVec.msb_eq_getLsbD_last _).trans hx3
  have hlt : 2 * (placeTm c p1 p2 pf ext6).toNat < 2 ^ 12 := BitVec.msb_eq_false_iff_two_mul_lt.1 hmsb
  omega

/-- Settles O27: one write of the store at index 0, of the word that the complemented latches decode to. -/
theorem commitStoresTheDecodedLatches : Obligations.CommitStoresTheDecodedLatches := by
  intro s
  have hread := Memory.read_write_same s.mem 0 ((commitValue s).setWidth 16)
  refine ⟨_, execTmCommit_eq s, fun f => ?field, ?bound, fun p hp => Memory.read_write_of_ne _ hp _, rfl⟩
  case field =>
    rw [hread, getLsbD_setWidth_fieldBit, commitValue]
    cases hf : tmPlaceOf s.params f with
    | none => exact getLsbD_placeTm_of_no_place hf ..
    | some place =>
      obtain ⟨pt, n⟩ := place
      rw [getLsbD_placeTm_of_place hf, getLsbD_pickSample_not]
  case bound =>
    rw [hread, BitVec.toNat_setWidth_of_le (by decide)]
    exact placeTm_toNat_lt ..

/-! ### The phase that a TMP word runs (R97, R98) -/

/-- The latch that the bits `m` of a TMP word select (R97). -/
def latchOfTmp (b : BitVec 4) : Latch :=
  match b.getLsbD 1, b.getLsbD 0 with
  | false, false => .silent
  | false, true => .s1
  | true, false => .s2
  | true, true => .sf

/-- A TMP word that is not reserved runs the phase step for the level and the latch in its bits (R97, R172). -/
theorem exec_of_decodeTmp {b : BitVec 4} {i : Instr} (h : decodeTmp b = .ok i) (s : State) :
    exec i s = .next (s.phase (b.getLsbD 2) (latchOfTmp b)) := by
  unfold decodeTmp at h
  split_ifs at h with hb hb hb hb hb <;> cases h <;> subst hb <;> rfl

/-- The silent pairs alternate, high first (R97). -/
theorem silentPairs_eq_of_getElem? {p k : Nat} {e : BitVec 4} (h : (silentPairs p)[k]? = some e) :
    e = if k % 2 = 0 then 0b100#4 else 0b000#4 := by
  induction p generalizing k with
  | zero => cases h
  | succ p ih =>
    match k with
    | 0 => exact (Option.some.inj h).symm
    | 1 => exact (Option.some.inj h).symm
    | k + 2 => rw [Nat.add_mod_right]; exact ih h

/-- The level of a phase is high at even and low at odd indices, in any phase table (R97, R296). -/
theorem level_of_phaseTable {p k : Nat} {e : BitVec 4} (h : (phaseTable p)[k]? = some e) :
    e.getLsbD 2 = decide (k % 2 = 0) := by
  match k with
  | 0 => cases h; rfl
  | 1 => cases h; rfl
  | k + 2 =>
    rw [Nat.add_mod_right]
    by_cases hsilent : k < 2 * p
    · rw [phaseTable_getElem?_of_silent hsilent] at h
      rw [silentPairs_eq_of_getElem? h]
      split_ifs with heven
      · exact (decide_eq_true heven).symm
      · exact (decide_eq_false heven).symm
    · obtain ⟨hlen, -⟩ := List.getElem?_eq_some_iff.1 h
      have hlt : k + 2 < 2 * p + 3 := hlen.trans_eq (phaseTable_length { Params.default with tmUnlockPairs := p })
      obtain rfl : k = 2 * p := by omega
      cases (phaseTable_getElem?_last p).symm.trans h
      exact (decide_eq_true (Nat.mul_mod_right 2 p)).symm

/-- Between the second sample and the last the phases are silent (R97). -/
theorem silent_of_phaseTable {p k : Nat} (hlo : 2 ≤ k) (hhi : k < 2 * p + 2) :
    ∃ e, (phaseTable p)[k]? = some e ∧ latchOfTmp e = .silent := by
  obtain ⟨j, rfl⟩ := Nat.exists_eq_add_of_le' hlo
  have hj : j < 2 * p := Nat.lt_of_add_lt_add_right hhi
  have hlen : j < (silentPairs p).length := hj.trans_eq (silentPairs_length p).symm
  refine ⟨_, (phaseTable_getElem?_of_silent hj).trans (List.getElem?_eq_getElem hlen), ?_⟩
  obtain he | he := mem_silentPairs (List.getElem_mem hlen)
  · rw [he]; rfl
  · rw [he]; rfl

/-! ### A reader step in a phase loop (R102, R184) -/

/-- A position in a phase loop where a phase is next forms 1001 (R102). -/
theorem opnBits_of_phase {s : State} (hpc : s.rdrPc = .tmDetect ∨ s.rdrPc = .tmLoop) (hlt : s.tmPc < nPh s.params) :
    opnBits s = 0b1001#4 := by
  obtain hpc | hpc := hpc
  · rw [opnBits, hpc]; exact if_pos hlt
  · rw [opnBits, hpc]; exact if_pos hlt

/-- A pending RDR choice at a phase runs the phase step for the level and the latch of the phase-table entry (R97, R102). -/
theorem step_of_phase {s : State} {cs : List Choice} {e : BitVec 4} (hp : s.pending = .rdr :: cs)
    (hpc : s.rdrPc = .tmDetect ∨ s.rdrPc = .tmLoop) (he : (phaseTable s.params.tmUnlockPairs)[s.tmPc]? = some e) :
    step s = .next ({ s with pending := cs }.phase (e.getLsbD 2) (latchOfTmp e)) := by
  obtain ⟨hlen, -⟩ := List.getElem?_eq_some_iff.1 he
  have hop : opnBits { s with pending := cs } = 0b1001#4 :=
    opnBits_of_phase hpc (hlen.trans_eq (phaseTable_length s.params))
  obtain ⟨e', i, he', hword, hdec⟩ := dispatch_of_opnBits hop
  obtain rfl : e = e' := Option.some.inj (he.symm.trans he')
  calc step s = runRdr exec { s with pending := cs } := step_of_pending s .rdr cs hp
    _ = exec i { s with pending := cs } := runWord_of_decode exec _ _ i (hword ▸ hdec)
    _ = _ := exec_of_decodeTmp hdec _

/-- Settles O29: the level is that of the phase-table entry, which its index alone decides. -/
theorem selectWaveformIsTheSameInEveryPoll : Obligations.SelectWaveformIsTheSameInEveryPoll := by
  intro s cs hp hpc hlt
  have he := List.getElem?_eq_getElem (hlt.trans_eq (phaseTable_length s.params).symm)
  refine ⟨_, (step_of_phase hp hpc he).trans (congrArg _ (State.phase_eq ..)), level_of_phaseTable he, rfl, rfl⟩

/-! ### A whole poll (R113, R170, R172) -/

/-- In a poll a phase takes no identification sample (R172, R182). -/
theorem phase_of_poll {s : State} (hpc : s.rdrPc = .tmLoop) (v : Bool) (m : Latch) :
    s.phase v m = { s.latchSample m s.lines.tmIn with tmSel := v, tmPc := s.tmPc + 1 } := by
  have hdetect : ¬(s.rdrPc = .tmDetect ∧ s.tmPc = s.params.tmIdPhase) := fun h => by cases hpc.symm.trans h.1
  rw [State.phase_eq, if_neg hdetect]
  cases m <;> rfl

/-- A pending RDR choice at a phase of a poll drives the level of its entry and samples into its latch (R97, R172). -/
theorem step_of_poll {s : State} {cs : List Choice} {e : BitVec 4} (hp : s.pending = .rdr :: cs)
    (hpc : s.rdrPc = .tmLoop) (he : (phaseTable s.params.tmUnlockPairs)[s.tmPc]? = some e) :
    step s = .next { { s with pending := cs }.latchSample (latchOfTmp e) s.lines.tmIn with
      tmSel := e.getLsbD 2, tmPc := s.tmPc + 1 } :=
  (step_of_phase hp (.inr hpc) he).trans (congrArg _ (phase_of_poll (s := { s with pending := cs }) hpc ..))

/-- ENV presents levels, then a phase of a poll samples them (R113, R172). -/
theorem run_presented {s : State} {l : Lines} {cs : List Choice} {e : BitVec 4} (hp : s.pending = .env l :: .rdr :: cs)
    (hpc : s.rdrPc = .tmLoop) (he : (phaseTable s.params.tmUnlockPairs)[s.tmPc]? = some e) (n : Nat) :
    core.run (n + 2) s = core.run n { { s with pending := cs, lines := l }.latchSample (latchOfTmp e) l.tmIn with
      tmSel := e.getLsbD 2, tmPc := s.tmPc + 1 } := by
  have henv : step s = .next { s with pending := .rdr :: cs, lines := l } := step_of_pending s _ _ hp
  have hrdr := step_of_poll (s := { s with pending := .rdr :: cs, lines := l }) rfl hpc he
  rw [run_succ_of_step henv, run_succ_of_step hrdr]

/-- The silent phases of a poll take no sample, whatever levels they drive: they lead to the last phase (R97, R172). -/
theorem run_silent {s : State} {k : Nat} {cs : List Choice} (hpc : s.rdrPc = .tmLoop) (hlo : 2 ≤ s.tmPc)
    (hk : s.tmPc + k = 2 * s.params.tmUnlockPairs + 2) (hp : s.pending = List.replicate k .rdr ++ cs) (n : Nat) :
    ∃ v, core.run (k + n) s =
      core.run n { s with pending := cs, tmSel := v, tmPc := 2 * s.params.tmUnlockPairs + 2 } := by
  induction k generalizing s with
  | zero =>
    obtain rfl : s.pending = cs := hp
    exact ⟨s.tmSel, by rw [← hk, Nat.zero_add]; rfl⟩
  | succ k ih =>
    obtain ⟨e, he, hsilent⟩ := silent_of_phaseTable (p := s.params.tmUnlockPairs) hlo (by omega)
    have hstep := step_of_poll hp hpc he
    rw [hsilent] at hstep
    rw [Nat.add_right_comm, run_succ_of_step hstep]
    exact ih hpc (Nat.le_succ_of_le hlo) ((Nat.add_right_comm ..).trans hk) rfl

/-- The state when a poll has taken its first two samples (R113, R173, R174). -/
def State.startPoll (s : State) (l : Lines) (v1 v2 : TmSample) (cs : List Choice) : State :=
  { s with
    pending := cs
    lines := { l with tmIn := v2 }
    tmSel := false
    tmS1 := v1
    tmS2 := v2
    tmPc := s.tmPc + 2 }

/-- The first two phases of a poll sample the levels presented at each (R97, R113). -/
theorem run_startPoll {s : State} {l : Lines} {v1 v2 : TmSample} {cs : List Choice} (hpc : s.rdrPc = .tmLoop)
    (hstart : s.tmPc = 0)
    (hp : s.pending = .env { l with tmIn := v1 } :: .rdr :: .env { l with tmIn := v2 } :: .rdr :: cs) (n : Nat) :
    core.run (n + 4) s = core.run n (s.startPoll l v1 v2 cs) := by
  refine (run_presented (e := 0b101#4) hp hpc ?first (n + 2)).trans (run_presented (e := 0b010#4) rfl ?loop ?second n)
  case first => rw [hstart]; rfl
  case loop => exact hpc
  case second => exact hstart ▸ rfl

/-- The state in which the phases of a poll leave the block for TM.COMMIT: three samples latched (R170, R172). -/
def State.polled (s : State) (l : Lines) (v1 v2 vf : TmSample) (cs : List Choice) : State :=
  { s with
    pending := cs
    lines := { l with tmIn := vf }
    tmSel := true
    tmS1 := v1
    tmS2 := v2
    tmSf := vf
    tmPc := nPh s.params }

/-- The phases of a poll latch the levels presented at the first, the second and the last of them (R113, R170). -/
theorem run_phases {s : State} {l : Lines} {v1 v2 vf : TmSample} {rest : List Choice} (hpc : s.rdrPc = .tmLoop)
    (hstart : s.tmPc = 0) (hp : s.pending = tmPoll l s.params.tmUnlockPairs v1 v2 vf ++ rest) (n : Nat) :
    core.run (2 * s.params.tmUnlockPairs + (n + 2) + 4) s = core.run n (s.polled l v1 v2 vf (.rdr :: rest)) := by
  rw [tmPoll, List.append_assoc, List.append_assoc] at hp
  rw [run_startPoll hpc hstart hp]
  have hcount : s.tmPc + 2 + 2 * s.params.tmUnlockPairs = 2 * s.params.tmUnlockPairs + 2 := by omega
  obtain ⟨v, hsilent⟩ := run_silent (s := s.startPoll l v1 v2 _) hpc (Nat.le_add_left ..) hcount rfl (n + 2)
  refine hsilent.trans (run_presented (e := 0b111#4) rfl ?loop ?last n)
  case loop => exact hpc
  case last => exact phaseTable_getElem?_last _

/-- A pending RDR choice at the end of a poll runs TM.COMMIT (R102). -/
theorem step_of_commit {s : State} {cs : List Choice} (hp : s.pending = .rdr :: cs) (hpc : s.rdrPc = .tmLoop)
    (hend : s.tmPc = nPh s.params) : step s = exec .tmCommit { s with pending := cs } := by
  have hop : opnBits { s with pending := cs } = 0b0100#4 := by
    rw [opnBits, hpc]
    exact (phaseOpn_of_le hend.le _).trans (if_pos hend)
  exact (step_of_pending s .rdr cs hp).trans (runRdr_of_opn (congrArg decodeOpn hop))

/-- Settles O30: the phases latch the three samples, and TM.COMMIT stores their decode. -/
theorem togglePollStoresWhatItSampled : Obligations.TogglePollStoresWhatItSampled := by
  intro s l v1 v2 vf rest hpc hstart hp
  obtain ⟨t, hcommit, hfields, -, hothers, ht⟩ := commitStoresTheDecodedLatches (s.polled l v1 v2 vf rest)
  have hstep := (step_of_commit (s := s.polled l v1 v2 vf (.rdr :: rest)) rfl hpc rfl).trans hcommit
  exact ⟨t, (run_phases hpc hstart hp 1).trans (run_succ_of_step hstep 0), hfields, hothers, ht⟩

end Sys2Proof.Machine

/-! PROOFS. The start-up family (43_startup_selection.md): the probe (O33), the selection (O34, O35), the degraded block (O57)
and the lines of the unselected reader (O58). -/

namespace Sys2Proof.Machine

/-! ### The probe and the selection (R201, R202) -/

/-- A sample differs from the mask under the mask exactly where a probed line is low (R201). -/
theorem probePresent_iff (c : Params) (x : TmSample) :
    probePresent c x = true ↔ ∃ j, j < 6 ∧ c.tmProbeMask.getLsbD j = true ∧ x.getLsbD j = false := by
  have hbit (a m : Bool) : (a && m) ≠ m ↔ m = true ∧ a = false := by cases a <;> cases m <;> decide
  rw [probePresent, bne_iff_ne, Ne, BitVec.eq_of_getLsbD_eq_iff]
  simp only [not_forall, exists_prop, BitVec.getLsbD_and, hbit]

/-- Settles O33. -/
theorem probeSeesALineDrivenLow : Obligations.ProbeSeesALineDrivenLow :=
  fun s => ⟨_, rfl, probePresent_iff s.params s.lines.tmIn, rfl⟩

/-- BOOT.SELECT after a probe that succeeded (R202). -/
theorem execBootSelect_of_present {s : State} (h : s.tmPresent = true) :
    execBootSelect s = .next { s with mode := .tm, tmPc := 0, rdrPc := .tmDetect } :=
  if_pos h

/-- BOOT.SELECT after a probe that failed (R202). -/
theorem execBootSelect_of_absent {s : State} (h : s.tmPresent = false) :
    execBootSelect s = .next { s with mode := .sr, rdrPc := .srInit } :=
  if_neg (Bool.eq_false_iff.1 h)

/-- Settles O34. -/
theorem selectionFixesTheMode : Obligations.SelectionFixesTheMode := by
  intro s
  split_ifs with hp
  · exact execBootSelect_of_present hp
  · exact execBootSelect_of_absent (Bool.eq_false_of_not_eq_true hp)

/-! ### The way from the entry point (R200, R203) -/

/-- A pending RDR choice runs the operation that the number of OPN names (R102). -/
theorem step_of_opn {s : State} {i : Instr} {cs : List Choice} (hp : s.pending = .rdr :: cs)
    (hop : decodeOpn (opnBits s) = .ok i) : step s = exec i { s with pending := cs } :=
  (step_of_pending s .rdr cs hp).trans (runRdr_of_opn (s := { s with pending := cs }) hop)

/-- The state that TM.INIT and TM.PROBE leave to BOOT.SELECT (R171, R200, R201). -/
def State.probed (s : State) (cs : List Choice) : State :=
  { s with
    pending := cs
    tmSel := s.params.tmSelInit
    tmPwr := s.params.tmPwrActive
    tmPc := 0
    tmPresent := probePresent s.params s.lines.tmIn
    rdrPc := .select }

/-- The first two reader steps initialise the toggle-multiplex lines and probe them (R200). -/
theorem run_probed {s : State} {cs : List Choice} (hpc : s.rdrPc = .tmInit) (hp : s.pending = .rdr :: .rdr :: cs) (n : Nat) :
    core.run (n + 2) s = core.run n (s.probed cs) := by
  have hinit : step s = execTmInit { s with pending := .rdr :: cs } :=
    step_of_opn (i := .tmInit) hp (by rw [opnBits, hpc]; rfl)
  rw [run_succ_of_step hinit, run_succ_of_step (step_of_opn (i := .tmProbe) rfl rfl)]
  rfl

/-- A pending RDR choice at the position of SR.INIT enters the loop, and `sr_ok` is the platform's answer (R145, R203). -/
theorem step_of_srInit {s : State} {cs : List Choice} (hp : s.pending = .rdr :: cs) (hpc : s.rdrPc = .srInit) :
    ∃ t, step s = .next t ∧ t.mode = s.mode ∧ t.rdrPc = .srLoop ∧ t.rdrSub = .chk ∧ t.srOk = s.params.seqAvailable ∧
      t.mem = s.mem := by
  have hinit : step s = execSrInit { s with pending := cs } := step_of_opn (i := .srInit) hp (by rw [opnBits, hpc]; rfl)
  cases ha : s.params.seqAvailable with
  | true => exact ⟨_, hinit.trans (execSrInit_of_available ha), rfl, rfl, rfl, rfl, rfl⟩
  | false => exact ⟨_, hinit.trans (execSrInit_of_unavailable ha), rfl, rfl, rfl, rfl, rfl⟩

/-- Settles O35: BOOT.SELECT follows the probe, and where the probe failed SR.INIT follows it. -/
theorem bootReachesTheSelectedReader : Obligations.BootReachesTheSelectedReader := by
  intro s cs hpc hp
  simp only [List.cons_append, List.nil_append] at hp
  have hselect : step (s.probed (.rdr :: .rdr :: cs)) = execBootSelect (s.probed (.rdr :: cs)) :=
    step_of_opn (i := .bootSelect) rfl rfl
  constructor
  · intro hpresent
    rw [run_probed hpc hp 1, run_succ_of_step (hselect.trans (execBootSelect_of_present hpresent))]
    exact ⟨_, rfl, rfl, rfl, rfl, rfl⟩
  · intro habsent
    rw [run_probed hpc hp 2, run_succ_of_step (hselect.trans (execBootSelect_of_absent habsent))]
    obtain ⟨t, hstep, ht⟩ := step_of_srInit (s := { s.probed (.rdr :: cs) with mode := .sr, rdrPc := .srInit }) rfl rfl
    exact ⟨t, run_succ_of_step hstep 0, ht⟩

/-! ### The bus over an empty store (R204, R224) -/

/-- An empty store reads as 0x000 everywhere (R48). -/
theorem Memory.read_nil (p : Nat) : Memory.read [] p = 0 := rfl

/-- A port that BOW addresses is an index of the store (R96, R110). -/
theorem toNat_ofNat_port_lt {n : Nat} (h : ¬ 2 ≤ n) : (BitVec.ofNat 2 n).toNat < 2 := by
  rw [BitVec.toNat_ofNat]
  omega

/-- An output operation over an empty store shows no data (R204, R221 to R223). -/
theorem runWord_bowWord_of_empty {s : State} (h : s.mem = []) : runWord exec (bowWord s) s = .next (s.drive (.out noData)) := by
  rw [runWord_of_decode exec _ s _ (decode_bowWord s)]
  split_ifs with hp hsel
  · rfl
  · exact (execBeOutDir_of_lt s (toNat_ofNat_port_lt hp)).trans (by rw [h, Memory.read_nil]; rfl)
  · exact (execBeOutBtn_of_lt s (toNat_ofNat_port_lt hp)).trans (by rw [h, Memory.read_nil]; rfl)

/-- Over an empty store every BE step drives all four lines high (R204, R224). -/
theorem runBe_out_of_empty {s t : State} (h : s.mem = []) (hrun : runBe exec s = .next t) : t.out = noData := by
  rw [runBe_eq] at hrun
  split_ifs at hrun
  · exact Host.Outcome.next.inj hrun ▸ rfl
  · have hout := runWord_bowWord_of_empty (s := { s with beState := .addressing, prevSel := s.lines.sel }) h
    exact Host.Outcome.next.inj (hout.symm.trans hrun) ▸ rfl
  · have hout := runWord_bowWord_of_empty (s := s.edge s.lines.sel) h
    rw [show exec (.beEdge s.lines.sel) s = _ from execBeEdge_eq _ s, andThen_next] at hrun
    exact Host.Outcome.next.inj (hout.symm.trans hrun) ▸ rfl

end Sys2Proof.Machine

namespace Sys2Proof.Safety

open Sys2Proof.Machine

/-! ### The choice of the schedule (R13) -/

/-- Taking a choice writes `pending` and `draws` alone (R13). -/
theorem takeChoice_eq (s : State) : ∃ cs n, s.takeChoice.2 = { s with pending := cs, draws := n } := by
  unfold State.takeChoice
  split <;> exact ⟨_, _, rfl⟩

/-! ### The degraded block (R204) -/

/-- In the loop without the sequencer no frame is ever there, so the reader waits at the same micro-step (R204). -/
theorem Inv.runRdr_degraded {s : State} (h : Inv s) (hpc : s.rdrPc = .srLoop) (hok : s.srOk = false) :
    runRdr exec s = .next s := by
  obtain ⟨-, -, hempty⟩ := h.stalled hok
  rw [runRdr_eq_exec s hpc, h.sub_chk hok]
  exact if_neg (Bool.eq_false_iff.1 hempty)

/-- No agent takes the degraded block out of its loop or acquires the sequencer (R204). -/
theorem Inv.degraded_kept {c : Choice} {s t : State} (h : Inv s) (hpc : s.rdrPc = .srLoop) (hok : s.srOk = false)
    (hrun : runChoice exec c s = .next t) : t.rdrPc = .srLoop ∧ t.srOk = false := by
  cases c with
  | env l => exact Host.Outcome.next.inj hrun ▸ ⟨hpc, hok⟩
  | seq => exact Host.Outcome.next.inj ((runSeq_of_not_ok exec s hok).symm.trans hrun) ▸ ⟨hpc, hok⟩
  | rdr => exact Host.Outcome.next.inj ((h.runRdr_degraded hpc hok).symm.trans hrun) ▸ ⟨hpc, hok⟩
  | be => cases beStep_of_runBe hrun <;> exact ⟨hpc, hok⟩

/-- In the degraded block nothing is stored. -/
theorem Inv.mem_of_degraded {s : State} (h : Inv s) (hpc : s.rdrPc = .srLoop) (hok : s.srOk = false) : s.mem = [] :=
  h.unwritten (hpc ▸ nofun) hok

/-- Settles O57: the state after the step is again degraded and meets the invariant, so its store is still empty. -/
theorem degradedBlockNeverStores : Obligations.DegradedBlockNeverStores := by
  intro s t h hpc hok hstep
  have hinv : Inv t := everyStepKeepsTheInvariant s t h hstep
  obtain ⟨hpc', hok'⟩ : t.rdrPc = .srLoop ∧ t.srOk = false := by
    obtain ⟨cs, n, hs⟩ := takeChoice_eq s
    exact h.kept_by_takeChoice.degraded_kept (hs ▸ hpc) (hs ▸ hok) hstep
  have hmem := hinv.mem_of_degraded hpc' hok'
  refine ⟨hpc', hok', hmem ▸ rfl, hmem ▸ rfl, fun cs hp => ?_⟩
  rw [step_of_pending s .be cs hp] at hstep
  exact runBe_out_of_empty (s := { s with pending := cs }) (h.mem_of_degraded hpc hok) hstep

/-! ### The levels driven, by the reader they belong to (R205, R241) -/

/-- The reader that a line belongs to; the four data lines belong to neither (R40). -/
def readerOfDrive : Drive → Option Mode
  | .srClk _ | .srLatch _ => some .sr
  | .tmSel _ | .tmPwr _ => some .tm
  | .out _ => none

/-- The reader whose lines an operation drives. -/
def readerDriven : Instr → Option Mode
  | .srSeqLatch | .srSeqShift | .srInit => some .sr
  | .tmInit | .tmPhS1 | .tmPhS2 | .tmPhHi | .tmPhLo | .tmPhSf => some .tm
  | .snapWr | .srSeqWait | .srPollPop | .srTrig | .tmCommit | .tmDetectEnd | .tmProbe | .bootSelect | .beIdle _ _
  | .beEdge _ | .beHold _ | .beOutDir _ | .beOutBtn _ | .beOutNone _ _ => none

/-- A pulse and a pair of idle levels are both on lines of one reader (R143 to R145, R171). -/
theorem readerOfDrive_of_mem_pair {a b d : Drive} {r : Option Mode} (h : d ∈ [a, b]) (ha : readerOfDrive a = r)
    (hb : readerOfDrive b = r) : readerOfDrive d = r := by
  obtain rfl | rfl := List.mem_pair.1 h
  · exact ha
  · exact hb

/-- An output operation drives the data lines, if anything. -/
theorem readerOfDrive_of_driveHalf {o : Option Snapshot} {half : Snapshot → Nibble} {d : Drive} (h : d ∈ driveHalf o half) :
    readerOfDrive d = none := by
  cases o with
  | none => cases h
  | some snap => rw [List.mem_singleton.1 h]; rfl

/-- Every level that an operation drives is on a line of its one reader. -/
theorem readerOfDrive_of_drives {i : Instr} {s : State} {d : Drive} (h : d ∈ drives i s) :
    readerOfDrive d = readerDriven i := by
  cases i with
  | srSeqLatch | tmInit => exact readerOfDrive_of_mem_pair h rfl rfl
  | srSeqShift =>
    simp only [drives] at h
    split at h
    · split_ifs at h
      · cases h
      · exact readerOfDrive_of_mem_pair h rfl rfl
    · cases h
    · cases h
  | srInit =>
    simp only [drives] at h
    split_ifs at h
    · exact readerOfDrive_of_mem_pair h rfl rfl
    · cases h
  | tmPhS1 | tmPhS2 | tmPhHi | tmPhLo | tmPhSf | beOutNone => rw [List.mem_singleton.1 h]; rfl
  | beOutDir | beOutBtn => exact readerOfDrive_of_driveHalf h
  | _ => cases h

/-- A level that a word drives is driven by the operation it selects. -/
theorem readerDriven_of_wordDrives {w : DecodeWord} {s : State} {d : Drive} (h : d ∈ wordDrives w s) :
    ∃ i, decode w = .ok i ∧ readerDriven i = readerOfDrive d := by
  unfold wordDrives at h
  split at h
  · exact ⟨_, by assumption, (readerOfDrive_of_drives h).symm⟩
  · cases h

/-- The slots of the sequencer drive the shift-register lines only (R99, R143, R144). -/
theorem readerDriven_of_srsWord {s : State} {i : Instr} {r : Mode} (h : decode (srsWord s) = .ok i)
    (hr : readerDriven i = some r) : r = .sr := by
  rw [decode_srsWord] at h
  cases hpc : s.srPc with
  | wait => rw [hpc] at h; cases h; cases hr
  | latch | shift => rw [hpc] at h; cases h; cases hr; rfl

/-- The phases drive the toggle-multiplex lines (R172). -/
theorem readerDriven_of_decodeTmp {b : BitVec 4} {i : Instr} (h : decodeTmp b = .ok i) : readerDriven i = some .tm := by
  unfold decodeTmp at h
  split_ifs at h <;> cases h <;> rfl

/-- The update of the bus emulator drives no line of a reader (R217 to R219). -/
theorem readerDriven_of_bewWord {s : State} {i : Instr} (h : decode (bewWord s) = .ok i) : readerDriven i = none := by
  rw [decode_bewWord] at h
  split_ifs at h <;> cases h <;> rfl

/-- Nor does the output operation that follows it (R221 to R223). -/
theorem readerDriven_of_bowWord {s : State} {i : Instr} (h : decode (bowWord s) = .ok i) : readerDriven i = none := by
  rw [decode_bowWord] at h
  split_ifs at h <;> cases h <;> rfl

/-- A number of OPN that names an operation makes it the reader's word (R102). -/
theorem decode_rdrWord_of_opn {s : State} {b : BitVec 4} {i : Instr} (hb : opnBits s = b) (h : decodeOpn b = .ok i) :
    decode (rdrWord s) = .ok i := by
  have hne : opnBits s ≠ 0b1001 := fun h9 => by rw [← hb, h9] at h; cases h
  rw [rdrWord, if_neg hne, hb]
  exact h

/-- In a phase loop the reader's word is that of a phase, or of the operation that ends the loop (R28, R102). -/
theorem readerDriven_of_phaseOpn {s : State} {done : BitVec 4} {i j : Instr} (hop : opnBits s = phaseOpn s done)
    (hdone : decodeOpn done = .ok j) (h : decode (rdrWord s) = .ok i) : readerDriven i = some .tm ∨ i = j := by
  unfold phaseOpn at hop
  split_ifs at hop with hlt hend
  · rw [rdrWord, if_pos hop] at h
    exact .inl (readerDriven_of_decodeTmp h)
  · exact .inr (Except.ok.inj (h.symm.trans (decode_rdrWord_of_opn hop hdone)))
  · rw [rdrWord, hop] at h
    cases h

/-- After TM.INIT the reader context drives lines of the reader of its position only (R200, R205). -/
theorem readerDriven_of_rdrWord {s : State} {i : Instr} {r : Mode} (hinit : s.rdrPc ≠ .tmInit)
    (h : decode (rdrWord s) = .ok i) (hr : readerDriven i = some r) : r = modeAt s.rdrPc := by
  match hpc : s.rdrPc with
  | .tmInit => exact absurd hpc hinit
  | .tmProbe | .select =>
    cases (decode_rdrWord_of_opn (by rw [opnBits, hpc]) rfl).symm.trans h
    cases hr
  | .srInit =>
    cases (decode_rdrWord_of_opn (by rw [opnBits, hpc]) rfl).symm.trans h
    cases hr
    rfl
  | .tmDetect =>
    obtain htm | rfl := readerDriven_of_phaseOpn (done := 0b0011) (by rw [opnBits, hpc]) rfl h
    · exact Option.some.inj (hr.symm.trans htm)
    · cases hr
  | .tmLoop =>
    obtain htm | rfl := readerDriven_of_phaseOpn (done := 0b0100) (by rw [opnBits, hpc]) rfl h
    · exact Option.some.inj (hr.symm.trans htm)
    · cases hr
  | .srLoop =>
    cases (decode_rdrWord_srLoop s hpc).symm.trans h
    cases hsub : s.rdrSub <;> rw [hsub] at hr <;> cases hr

/-- A BE step drives the data lines only (R224). -/
theorem readerOfDrive_of_be {s : State} {d : Drive} (h : d ∈ stepDrives .be s) : readerOfDrive d = none := by
  obtain ⟨_, _, _, _, _, hrun⟩ := runBe_completes s
  obtain ⟨i, u, hi, hu, -⟩ := runBe_eq_next hrun
  rw [stepDrives_be s u i hi hu, List.mem_append] at h
  obtain hupdate | hout := h
  · exact (readerOfDrive_of_drives hupdate).trans (readerDriven_of_bewWord hi)
  · unfold outDrives at hout
    split at hout
    · exact readerOfDrive_of_drives hout
    · obtain ⟨j, hj, hd⟩ := readerDriven_of_wordDrives hout
      exact hd.symm.trans (readerDriven_of_bowWord hj)

/-- Once the reader is selected, no step drives a line of the other one (R205). -/
theorem Inv.reader_of_stepDrives {c : Choice} {s : State} {d : Drive} {r : Mode} (h : Inv s) (hm : s.mode ≠ .boot)
    (hd : d ∈ stepDrives c s) (hr : readerOfDrive d = some r) : r = s.mode := by
  cases c with
  | env l => cases hd
  | seq =>
    simp only [stepDrives] at hd
    split_ifs at hd with hok
    · obtain ⟨i, hi, hid⟩ := readerDriven_of_wordDrives hd
      rw [readerDriven_of_srsWord hi (hid.trans hr), h.mode_eq, h.ok_in_loop hok]
      rfl
    · cases hd
  | rdr =>
    obtain ⟨i, hi, hid⟩ := readerDriven_of_wordDrives hd
    have hinit : s.rdrPc ≠ .tmInit := fun hpc => hm (h.boot_positions.2 (.inl hpc))
    exact (readerDriven_of_rdrWord hinit hi (hid.trans hr)).trans h.mode_eq.symm
  | be => cases (readerOfDrive_of_be hd).symm.trans hr

/-! ### The line registers of the unselected reader (R40, R205) -/

/-- The line registers of the reader that is not selected keep their levels. -/
def UnselectedKept (s t : State) : Prop :=
  (s.mode = .sr → t.tmSel = s.tmSel ∧ t.tmPwr = s.tmPwr) ∧ (s.mode = .tm → t.srClk = s.srClk ∧ t.srLatch = s.srLatch)

/-- A step that writes none of the four line registers keeps those of the unselected reader. -/
theorem UnselectedKept.of_lines {s t : State} (hsel : t.tmSel = s.tmSel) (hpwr : t.tmPwr = s.tmPwr) (hclk : t.srClk = s.srClk)
    (hlatch : t.srLatch = s.srLatch) : UnselectedKept s t :=
  ⟨fun _ => ⟨hsel, hpwr⟩, fun _ => ⟨hclk, hlatch⟩⟩

/-- SEQ owns the shift-register lines, and it is stalled in mode `TM` (R34, R42). -/
theorem Inv.unselectedKept_of_runSeq {s t : State} (h : Inv s) (hrun : runSeq exec s = .next t) : UnselectedKept s t := by
  cases hok : s.srOk with
  | false =>
    obtain rfl := Host.Outcome.next.inj ((runSeq_of_not_ok exec s hok).symm.trans hrun)
    exact .of_lines rfl rfl rfl rfl
  | true =>
    have hframe : t = _ := runSeq_seqFrame hrun
    have hsr : s.mode = .sr := h.mode_eq.trans (h.ok_in_loop hok ▸ rfl)
    rw [hframe]
    exact ⟨fun _ => ⟨rfl, rfl⟩, fun htm => nomatch hsr.symm.trans htm⟩

/-- Of the steps of RDR that drive a line, TM.INIT runs in mode `BOOT`, a phase in mode `TM` and SR.INIT in mode `SR`. -/
theorem Inv.unselectedKept_of_runRdr {s t : State} (h : Inv s) (hrun : runRdr exec s = .next t) : UnselectedKept s t := by
  cases rdrStep_of_runRdr hrun with
  | tmInit hpc =>
    have hboot : s.mode = .boot := h.boot_positions.2 (.inl hpc)
    exact ⟨fun hsr => (nomatch hboot.symm.trans hsr), fun htm => nomatch hboot.symm.trans htm⟩
  | phase l m hpc =>
    have htm : s.mode = .tm := h.tm_positions.2 hpc
    rw [State.phase_eq]
    exact ⟨fun hsr => (nomatch htm.symm.trans hsr), fun _ => ⟨rfl, rfl⟩⟩
  | acquire hpc =>
    have hsr : s.mode = .sr := h.mode_eq.trans (hpc ▸ rfl)
    exact ⟨fun _ => ⟨rfl, rfl⟩, fun htm => nomatch hsr.symm.trans htm⟩
  | _ => exact .of_lines rfl rfl rfl rfl

/-- ENV and BE write none of the four registers (R42). -/
theorem Inv.unselectedKept_of_runChoice {c : Choice} {s t : State} (h : Inv s) (hrun : runChoice exec c s = .next t) :
    UnselectedKept s t := by
  cases c with
  | env l =>
    obtain rfl := Host.Outcome.next.inj hrun
    exact .of_lines rfl rfl rfl rfl
  | seq => exact h.unselectedKept_of_runSeq hrun
  | rdr => exact h.unselectedKept_of_runRdr hrun
  | be => cases beStep_of_runBe hrun <;> exact .of_lines rfl rfl rfl rfl

/-- Settles O58: the levels driven by their reader, the registers by the chosen agent. -/
theorem unselectedLinesAreNeverDriven : Obligations.UnselectedLinesAreNeverDriven := by
  refine ⟨fun s c h => ⟨fun hsr v => ?_, fun htm v => ?_⟩, fun s t h hstep => ?_⟩
  · have hne {d : Drive} (hd : d ∈ stepDrives c s) : readerOfDrive d ≠ some .tm := fun hr =>
      nomatch (h.reader_of_stepDrives (hsr ▸ nofun) hd hr).trans hsr
    exact ⟨fun hd => hne hd rfl, fun hd => hne hd rfl⟩
  · have hne {d : Drive} (hd : d ∈ stepDrives c s) : readerOfDrive d ≠ some .sr := fun hr =>
      nomatch (h.reader_of_stepDrives (htm ▸ nofun) hd hr).trans htm
    exact ⟨fun hd => hne hd rfl, fun hd => hne hd rfl⟩
  · have hkept := h.kept_by_takeChoice.unselectedKept_of_runChoice hstep
    obtain ⟨cs, n, hs⟩ := takeChoice_eq s
    rw [hs] at hkept
    exact hkept

end Sys2Proof.Safety

/-! PROOFS. The bus emulator family (44_bus_emulator.md): its operations (O36 to O39), the whole BE step (O7, O41, O42), the
host's sequence (O43), and that every step completes (O54). -/

namespace Sys2Proof.Machine

/-! ### The operations (R217 to R223) -/

/-- Settles O36. -/
theorem idleResetsTheMultiplexing : Obligations.IdleResetsTheMultiplexing :=
  fun _ _ _ => rfl

/-- The saturating increment is the next count until the bound is reached (R218). -/
theorem countEdge_eq_ite (c : Params) (n : Nat) : countEdge c n = if n < c.cntSat then n + 1 else c.cntSat := by
  unfold countEdge
  split_ifs <;> omega

/-- Settles O37: the next state is that of the counted transition. -/
theorem edgeCountsWithSaturation : Obligations.EdgeCountsWithSaturation :=
  fun s e => ⟨s.edge e, execBeEdge_eq e s, countEdge_eq_ite s.params s.cnt, rfl, rfl⟩

/-- Settles O38. -/
theorem holdKeepsTheMultiplexing : Obligations.HoldKeepsTheMultiplexing :=
  fun _ _ => rfl

/-- The direction half of the snapshot in a word, line by line (R107, R221). -/
theorem getLsbD_dirHalf_word (w : SnapWord) {j : Nat} (h : j < 4) :
    (dirHalf (w.setWidth 12)).getLsbD j = !w.getLsbD j := by
  rw [getLsbD_dirHalf _ j h, BitVec.getLsbD_setWidth, decide_eq_true (show _ < 12 by omega), Bool.true_and]

/-- The button half of the snapshot in a word, line by line (R107, R222). -/
theorem getLsbD_btnHalf_word (w : SnapWord) {j : Nat} (h : j < 4) :
    (btnHalf (w.setWidth 12)).getLsbD j = !w.getLsbD (4 + j) := by
  rw [getLsbD_btnHalf _ j h, BitVec.getLsbD_setWidth, decide_eq_true (show _ < 12 by omega), Bool.true_and]

/-- Settles O39: each output line is the complement of one bit of the snapshot read. -/
theorem outputOperationsDriveTheHalf : Obligations.OutputOperationsDriveTheHalf :=
  ⟨fun s _ hpp => ⟨⟨_, execBeOutDir_of_lt s hpp, rfl, fun _ hj => getLsbD_dirHalf_word _ hj⟩,
    ⟨_, execBeOutBtn_of_lt s hpp, rfl, fun _ hj => getLsbD_btnHalf_word _ hj⟩⟩, fun _ _ _ => rfl⟩

/-! ### The BE step (R224) -/

/-- A BE step runs the operation of BEW and then the output operation (R224). -/
theorem runBe_of_decode {run : Instr → State → Result} {s : State} {i : Instr} (h : decode (bewWord s) = .ok i) :
    runBe run s = andThen (run i s) (runOut run i) := by
  rw [runBe, h]

/-- Settles O7: BEW says whether the update was BE.IDLE, by the level of `en`. -/
theorem busStepRunsTwoDecodedOperations : Obligations.BusStepRunsTwoDecodedOperations := by
  intro s t cs i hp hi hexec
  have hstep : step s = runOut exec i t := by
    rw [step_of_pending s .be cs hp]
    exact (runBe_of_decode hi).trans (by rw [hexec, andThen_next])
  have hupdate := Except.ok.inj ((decode_bewWord _).symm.trans hi)
  refine ⟨fun hen => ?idle, fun hen j hj => ?addressed⟩
  case idle =>
    rw [if_pos hen] at hupdate
    subst hupdate
    exact ⟨0b10#2, t.lines.sel, hstep⟩
  case addressed =>
    have hrun : runOut exec i t = runWord exec (bowWord t) t := by
      rw [if_neg (Bool.eq_false_iff.1 hen)] at hupdate
      split_ifs at hupdate <;> (subst hupdate; rfl)
    exact hstep.trans (hrun.trans (runWord_of_decode exec _ t j hj))

/-- The levels of the four output lines by the function OUT of R224. -/
def busOut (e : Bool) (port : Nat) (sel : Bool) (m : Memory) : Nibble :=
  if e = true ∨ 2 ≤ port then noData
  else if sel = true then dirHalf ((m.read port).setWidth 12)
  else btnHalf ((m.read port).setWidth 12)

/-- The level of one output line (R93, R224). -/
theorem getLsbD_busOut (e : Bool) (port : Nat) (sel : Bool) (m : Memory) {j : Nat} (hj : j < 4) :
    (busOut e port sel m).getLsbD j = Safety.busLine e port sel m j := by
  unfold busOut Safety.busLine
  by_cases hnone : e = true ∨ 2 ≤ port
  · have hhigh : noData.getLsbD j = true := by revert j; decide
    rw [if_pos hnone, hhigh, eq_comm, Bool.or_eq_true_iff, Bool.or_eq_true_iff, decide_eq_true_iff]
    exact .inl hnone
  · obtain ⟨hen, hport⟩ := not_or.1 hnone
    rw [if_neg hnone, Bool.eq_false_of_not_eq_true hen, decide_eq_false hport]
    cases sel with
    | true => exact getLsbD_dirHalf_word _ hj
    | false => exact (getLsbD_btnHalf_word _ hj).trans (by rw [Nat.add_comm]; rfl)

/-- The output operation that BOW selects drives OUT of an addressed device (R96, R224). -/
theorem runWord_bowWord_eq (s : State) :
    runWord exec (bowWord s) s = .next { s with out := busOut false s.port s.lines.sel s.mem } := by
  rw [runWord_of_decode exec _ s _ (decode_bowWord s), busOut]
  simp only [Bool.false_eq_true, false_or]
  have hword (hport : ¬2 ≤ s.port) : (BitVec.ofNat 2 s.port).toNat = s.port := by
    rw [BitVec.toNat_ofNat]
    omega
  split_ifs with hport hsel
  · rfl
  · exact (execBeOutDir_of_lt s (toNat_ofNat_port_lt hport)).trans (by rw [hword hport]; rfl)
  · exact (execBeOutBtn_of_lt s (toNat_ofNat_port_lt hport)).trans (by rw [hword hport]; rfl)

/-- The count after a BE step, by the sampled levels (R217 to R219). -/
def State.busCnt (s : State) : Nat :=
  if s.lines.en = true then 0 else if s.lines.sel = s.prevSel then s.cnt else countEdge s.params s.cnt

/-- The port after a BE step, by the sampled levels (R217 to R219). -/
def State.busPort (s : State) : Nat :=
  if s.lines.en = true then 0 else if s.lines.sel = s.prevSel then s.port else s.busCnt / 2

/-- The state after a BE step: the update, then OUT of the updated port (R224). -/
def State.busStep (s : State) : State :=
  { s with
    beState := if s.lines.en = true then .idle else .addressing
    cnt := s.busCnt
    port := s.busPort
    prevSel := s.lines.sel
    out := busOut s.lines.en s.busPort s.lines.sel s.mem }

/-- A BE step completes from every state, and leaves the state that R224 gives. -/
theorem runBe_eq_busStep (s : State) : runBe exec s = .next s.busStep := by
  rw [runBe_eq]
  unfold State.busStep State.busPort State.busCnt
  split_ifs with hen hsel
  · rw [hen]; rfl
  · exact (runWord_bowWord_eq { s with beState := .addressing, prevSel := s.lines.sel }).trans (by
      rw [Bool.eq_false_of_not_eq_true hen])
  · rw [show exec (.beEdge s.lines.sel) s = _ from execBeEdge_eq _ s, andThen_next, runWord_bowWord_eq,
      Bool.eq_false_of_not_eq_true hen]
    rfl

/-- A pending BE choice takes that step. -/
theorem step_be_of_pending {s : State} {cs : List Choice} (h : s.pending = .be :: cs) :
    step s = .next ({ s with pending := cs } : State).busStep :=
  (step_of_pending s .be cs h).trans (runBe_eq_busStep _)

/-- Settles O41. -/
theorem busStepDrivesTheAddressedHalf : Obligations.BusStepDrivesTheAddressedHalf :=
  fun _ _ hp => ⟨_, step_be_of_pending hp, rfl, rfl, fun _ hj => getLsbD_busOut _ _ _ _ hj, rfl⟩

/-! ### The same levels again (R227) -/

/-- The bus emulator has answered the levels it samples: its registers are what a BE step would leave. -/
structure Settled (s : State) : Prop where
  be_state : s.beState = if s.lines.en = true then .idle else .addressing
  idle_cnt : s.lines.en = true → s.cnt = 0
  idle_port : s.lines.en = true → s.port = 0
  prev_sel : s.prevSel = s.lines.sel
  out : s.out = busOut s.lines.en s.port s.lines.sel s.mem

/-- A BE step from such a state changes nothing: the recorded level is the sampled one, so nothing is counted. -/
theorem Settled.busStep_eq {s : State} (h : Settled s) : s.busStep = s := by
  have hcnt : s.busCnt = s.cnt := by
    unfold State.busCnt
    split_ifs with hen hsel
    · exact (h.idle_cnt hen).symm
    · rfl
    · exact absurd h.prev_sel.symm hsel
  have hport : s.busPort = s.port := by
    unfold State.busPort
    split_ifs with hen hsel
    · exact (h.idle_port hen).symm
    · rfl
    · exact absurd h.prev_sel.symm hsel
  unfold State.busStep
  rw [hcnt, hport, ← h.out, ← h.be_state, ← h.prev_sel]

/-- Every BE step leaves such a state. -/
theorem busStep_settled (s : State) : Settled s.busStep where
  be_state := rfl
  idle_cnt := fun hen => if_pos hen
  idle_port := fun hen => if_pos hen
  prev_sel := rfl
  out := rfl

/-- Settles O42: the second step starts from registers that have answered its levels. -/
theorem repeatedBusStepChangesNothing : Obligations.RepeatedBusStepChangesNothing := by
  intro s t u cs ds hp hstep hq hen hsel hmem hbe hcnt hport hprev hout
  obtain rfl := Host.Outcome.next.inj ((step_be_of_pending hp).symm.trans hstep)
  have ht := busStep_settled { s with pending := cs }
  have hu : Settled { u with pending := ds } := {
    be_state := by rw [hbe, hen]; exact ht.be_state
    idle_cnt := fun h => hcnt.trans (ht.idle_cnt (hen ▸ h))
    idle_port := fun h => hport.trans (ht.idle_port (hen ▸ h))
    prev_sel := by rw [hprev, hsel]; exact ht.prev_sel
    out := by rw [hout, hen, hport, hsel, hmem]; exact ht.out }
  rw [step_be_of_pending hq, hu.busStep_eq]

/-! ### The host's regular sequence (R215, R228) -/

/-- A run that answers can be gone on with. -/
theorem run_add_of_run {s t : State} {n : Nat} (h : core.run n s = .next t) (m : Nat) :
    core.run (n + m) s = core.run m t := by
  induction n generalizing s with
  | zero => rw [Nat.zero_add, show s = t from Host.Outcome.next.inj h]
  | succ n ih =>
    cases hs : step s with
    | next u =>
      rw [run_succ_of_step hs] at h
      rw [Nat.add_right_comm, run_succ_of_step hs, ih h]
    | fault r | refused r =>
      have hcore : core.step s = _ := hs
      simp [Host.Core.run, hcore] at h

/-- `HOST e b` is two steps: ENV sets the levels of the host, BE answers them (R113). -/
theorem run_host {s : State} {l : Lines} {e b : Bool} {cs : List Choice} (hp : s.pending = Safety.host l e b ++ cs) (n : Nat) :
    core.run (n + 2) s =
      core.run n ({ s with pending := cs, lines := { l with en := e, sel := b } } : State).busStep := by
  have henv : step s = .next { s with pending := .be :: cs, lines := { l with en := e, sel := b } } :=
    step_of_pending s _ _ hp
  rw [run_succ_of_step henv, run_succ_of_step (step_be_of_pending rfl)]

/-- The select level of the j-th state of a window that begins at level b and alternates (R228). -/
def windowLevel (b : Bool) (j : Nat) : Bool :=
  decide (j % 2 = 0) == b

theorem windowLevel_succ (b : Bool) (j : Nat) : windowLevel b (j + 1) = !windowLevel b j := by
  obtain h | h := Nat.mod_two_eq_zero_or_one j
  · cases b <;> simp [windowLevel, h, Nat.succ_mod_two_eq_one_iff.2 h]
  · cases b <;> simp [windowLevel, h, Nat.succ_mod_two_eq_zero_iff.2 h]

/-- The j-th state of such a window: count j, port j / 2 (R228). -/
def State.inWindow (s : State) (l : Lines) (b : Bool) (j : Nat) (cs : List Choice) : State :=
  { s with
    pending := cs
    lines := { l with en := false, sel := windowLevel b j }
    beState := .addressing
    cnt := j
    port := j / 2
    prevSel := windowLevel b j
    out := busOut false (j / 2) (windowLevel b j) s.mem }

/-- After an idle step the first state of the window counts nothing: the select level is unchanged (R217, R219). -/
theorem busStep_idle_first (s : State) (l : Lines) (b : Bool) (cs ds : List Choice) :
    ({ ({ s with pending := cs, lines := { l with en := true, sel := b } } : State).busStep with
        pending := ds, lines := { l with en := false, sel := windowLevel b 0 } } : State).busStep = s.inWindow l b 0 ds := by
  have hlevel : windowLevel b 0 = b := by cases b <;> rfl
  simp [State.busStep, State.busCnt, State.busPort, State.inWindow, hlevel]

/-- Each further state of the window counts one transition, while the count is below its bound (R218). -/
theorem busStep_inWindow (s : State) (l : Lines) (b : Bool) {j : Nat} (hj : j < s.params.cntSat) (cs ds : List Choice) :
    ({ s.inWindow l b j cs with
        pending := ds, lines := { l with en := false, sel := windowLevel b (j + 1) } } : State).busStep =
      s.inWindow l b (j + 1) ds := by
  have hcount : countEdge s.params j = j + 1 := Nat.min_eq_left hj
  have hne : windowLevel b (j + 1) ≠ windowLevel b j := by rw [windowLevel_succ]; exact Bool.not_ne_self _
  simp [State.busStep, State.busCnt, State.busPort, State.inWindow, hne, hcount]

/-- The choices of a window of n alternating levels, from its j-th state on. -/
def windowFrom (l : Lines) (b : Bool) (n j : Nat) : List Choice :=
  Safety.hostWindow l (((List.range n).map (windowLevel b)).drop j)

theorem windowFrom_of_lt (l : Lines) (b : Bool) {n j : Nat} (h : j < n) :
    windowFrom l b n j = Safety.host l false (windowLevel b j) ++ windowFrom l b n (j + 1) := by
  have hlen : j < ((List.range n).map (windowLevel b)).length := by simpa using h
  rw [windowFrom, List.drop_eq_getElem_cons hlen, Safety.hostWindow, List.flatMap_cons, List.getElem_map, List.getElem_range]
  rfl

/-- After an idle step at its first level a window of alternating levels runs through these states (R228). -/
theorem run_window {s : State} {l : Lines} {b : Bool} {n j : Nat} {rest : List Choice}
    (hp : s.pending = Safety.host l true b ++ (windowFrom l b n 0 ++ rest)) (hj : j < n) (hsat : j ≤ s.params.cntSat) :
    core.run (2 * (j + 2)) s = .next (s.inWindow l b j (windowFrom l b n (j + 1) ++ rest)) := by
  induction j with
  | zero =>
    rw [windowFrom_of_lt l b hj, List.append_assoc] at hp
    rw [run_host hp 2, run_host rfl 0, busStep_idle_first]
    rfl
  | succ j ih =>
    have hbefore := ih (Nat.lt_of_succ_lt hj) (Nat.le_of_succ_le hsat)
    rw [windowFrom_of_lt l b hj, List.append_assoc] at hbefore
    rw [show 2 * (j + 1 + 2) = 2 * (j + 2) + (0 + 2) by omega, run_add_of_run hbefore, run_host rfl 0,
      busStep_inWindow s l b hsat]
    rfl

/-- Settles O43: the window of R228 is that of five alternating levels; its fifth state has port 2. -/
theorem hostSequenceReadsBothPorts : Obligations.HostSequenceReadsBothPorts := by
  intro s l b rest j hj hsat hp
  have hlevels : [b, !b, b, !b, b] = (List.range 5).map (windowLevel b) := by cases b <;> rfl
  rw [hlevels, List.append_assoc] at hp
  refine ⟨_, run_window hp hj (by omega), rfl, rfl, rfl, fun n hn => (getLsbD_busOut _ _ _ _ hn).trans ?_⟩
  rw [Safety.busLine, Bool.false_or]
  by_cases hlast : j = 4
  · rw [if_pos hlast, hlast]
    rfl
  · rw [if_neg hlast, decide_eq_false (by omega), Bool.false_or]
    simp only [windowLevel, beq_iff_eq]

/-! ### Every step completes (R225, R250, R257) -/

/-- Every operation of RDR completes from every state: the two that store address a snapshot that exists. -/
theorem exec_rdr_completes {i : Instr} (hi : Safety.agentOf i = .rdr) (s : State) : ∃ t, exec i s = .next t := by
  cases i with
  | snapWr => exact ⟨_, execSnapWr_eq s⟩
  | tmCommit => exact ⟨_, execTmCommit_eq s⟩
  | srInit | srPollPop | bootSelect =>
    simp only [exec, execSrInit, execSrPollPop, execBootSelect]
    split <;> exact ⟨_, rfl⟩
  | srTrig | tmInit | tmPhS1 | tmPhS2 | tmPhHi | tmPhLo | tmPhSf | tmDetectEnd | tmProbe => exact ⟨_, rfl⟩
  | _ => cases hi

/-- OPN 0 to 8 are operations of RDR (R102). -/
theorem decodeOpn_of_lt {b : BitVec 4} (h : b.toNat < 9) : ∃ i, decodeOpn b = .ok i ∧ Safety.agentOf i = .rdr := by
  have hb : BitVec.ofNat 4 b.toNat = b := by rw [BitVec.ofNat_toNat, BitVec.setWidth_eq]
  rw [← hb]
  generalize b.toNat = n at h
  interval_cases n <;> exact ⟨_, rfl, rfl⟩

/-- The words of the phase table are operations of RDR (R98). -/
theorem agentOf_of_decodeTmp {b : BitVec 4} {i : Instr} (h : decodeTmp b = .ok i) : Safety.agentOf i = .rdr := by
  unfold decodeTmp at h
  split_ifs at h <;> cases h <;> rfl

/-- While `tm_pc` is in its range the reader's word is an operation of RDR, by OPN or by the phase table (R98, R102). -/
theorem decode_rdrWord_of_le {s : State} (h : s.tmPc ≤ nPh s.params) :
    ∃ i, decode (rdrWord s) = .ok i ∧ Safety.agentOf i = .rdr := by
  obtain ⟨-, hle, hphase, hopn⟩ := operationNumberFollowsTheReaderPosition s h
  by_cases hdispatch : opnBits s = 0b1001#4
  · obtain ⟨e, i, -, hword, hi⟩ := hphase hdispatch
    exact ⟨i, hword ▸ hi, agentOf_of_decodeTmp hi⟩
  · have hne : (opnBits s).toNat ≠ 9 := fun h9 => hdispatch (BitVec.eq_of_toNat_eq h9)
    rw [hopn hdispatch]
    exact decodeOpn_of_lt (b := opnBits s) (by omega)

/-- While `tm_pc` is in its range an RDR step completes (R102, R225). -/
theorem runRdr_completes {s : State} (h : s.tmPc ≤ nPh s.params) : ∃ t, runRdr exec s = .next t := by
  obtain ⟨i, hi, hagent⟩ := decode_rdrWord_of_le h
  obtain ⟨t, ht⟩ := exec_rdr_completes hagent s
  exact ⟨t, (runWord_of_decode exec _ s i hi).trans ht⟩

end Sys2Proof.Machine

namespace Sys2Proof.Safety

open Sys2Proof.Machine

/-- SEQ completes while it is stalled and while it is acquired, RDR in the range of its positions, BE and ENV always. -/
theorem Inv.runChoice_completes {s : State} (h : Inv s) (c : Choice) : ∃ t, runChoice exec c s = .next t := by
  cases c with
  | env l => exact ⟨_, rfl⟩
  | seq =>
    cases hok : s.srOk with
    | false => exact ⟨s, runSeq_of_not_ok exec s hok⟩
    | true =>
      obtain ⟨t, hrun, -⟩ := seq_loopStep (polling_of_inv h hok)
      exact ⟨t, hrun⟩
  | rdr => exact runRdr_completes h.phase_range
  | be => exact ⟨s.busStep, runBe_eq_busStep s⟩

/-- Settles O54, by the chosen agent. -/
theorem everyStepCompletes : Obligations.EveryStepCompletes :=
  fun _ h => h.kept_by_takeChoice.runChoice_completes _

end Sys2Proof.Safety

/-! PROOFS. The common laws family (45_common_laws.md): the line registers are what the driven levels leave (O50). -/

namespace Sys2Proof.Machine

/-! ### Driven levels and the line registers (R25, R40) -/

/-- The line registers: `sr_clk`, `sr_latch`, `tm_sel`, `tm_pwr` and `out` (R25, R40). -/
def State.lineRegs (s : State) : Bool × Bool × Bool × Bool × Nibble :=
  (s.srClk, s.srLatch, s.tmSel, s.tmPwr, s.out)

/-- The line registers of `t` are what the levels `ds`, driven in order, leave of those of `s`. -/
def DrivenBy (ds : List Drive) (s t : State) : Prop :=
  t.lineRegs = (ds.foldl State.drive s).lineRegs

/-- A level is driven whatever the rest of the state is. -/
theorem State.lineRegs_drive_congr {s t : State} (h : s.lineRegs = t.lineRegs) (d : Drive) :
    (s.drive d).lineRegs = (t.drive d).lineRegs := by
  simp only [lineRegs, Prod.mk.injEq] at h
  obtain ⟨hclk, hlatch, hsel, hpwr, hout⟩ := h
  cases d <;> simp [lineRegs, hclk, hlatch, hsel, hpwr, hout]

/-- So are levels one after another. -/
theorem lineRegs_foldl_drive_congr {s t : State} (h : s.lineRegs = t.lineRegs) (ds : List Drive) :
    (ds.foldl State.drive s).lineRegs = (ds.foldl State.drive t).lineRegs := by
  induction ds generalizing s t with
  | nil => exact h
  | cons d ds ih => exact ih (State.lineRegs_drive_congr h d)

/-- What two parts drive, one after the other, their sequence drives (R224). -/
theorem DrivenBy.append {ds es : List Drive} {s u t : State} (hs : DrivenBy ds s u) (hu : DrivenBy es u t) :
    DrivenBy (ds ++ es) s t := by
  rw [DrivenBy, List.foldl_append]
  exact hu.trans (lineRegs_foldl_drive_congr hs es)

/-- A phase drives the select line alone (R172). -/
theorem State.phase_drivenBy (s : State) (l : Bool) (m : Latch) : DrivenBy [.tmSel l] s (s.phase l m) := by
  rw [State.phase_eq]
  rfl

/-- A slot that shifts pulses the clock, and one that stalls drives nothing (R144). -/
theorem execSrSeqShift_drivenBy {s t : State} (h : exec .srSeqShift s = .next t) :
    DrivenBy (drives .srSeqShift s) s t := by
  cases hpc : s.srPc with
  | wait => cases (shiftOutsideTheFrameStops s (.inl hpc)).symm.trans h
  | latch => cases (shiftOutsideTheFrameStops s (.inr hpc)).symm.trans h
  | shift k =>
    by_cases hstall : k = 15 ∧ s.srRxValid = true
    · obtain ⟨rfl, hv⟩ := hstall
      obtain ⟨hexec, hdrives⟩ := fullReceiveQueueStallsTheSequencer s hpc hv
      obtain rfl := Host.Outcome.next.inj (hexec.symm.trans h)
      rw [hdrives]
      rfl
    · have hempty (hk : k = 15) : s.srRxValid = false := Bool.eq_false_of_not_eq_true fun hv => hstall ⟨hk, hv⟩
      obtain ⟨hdrives, u, hexec, -, -, hframe⟩ := shiftSlotShiftsInTheSample s k hpc hempty
      obtain rfl := Host.Outcome.next.inj (hexec.symm.trans h)
      rw [hdrives, hframe]
      rfl

/-- SR.INIT leaves both lines idle where it acquires the sequencer, and drives neither where it cannot (R145). -/
theorem execSrInit_drivenBy {s t : State} (h : exec .srInit s = .next t) : DrivenBy (drives .srInit s) s t := by
  cases ha : s.params.seqAvailable with
  | true =>
    obtain rfl := Host.Outcome.next.inj ((execSrInit_of_available ha).symm.trans h)
    rw [drives, if_pos ha]
    rfl
  | false =>
    obtain rfl := Host.Outcome.next.inj ((execSrInit_of_unavailable ha).symm.trans h)
    rw [drives, if_neg (Bool.eq_false_iff.1 ha)]
    rfl

/-- An output operation drives the half it has read (R221, R222). -/
theorem orNoSnapshot_drivenBy {o : Option Snapshot} {half : Snapshot → Nibble} {s t : State}
    (h : orNoSnapshot o (fun snap => .next (s.drive (.out (half snap)))) = .next t) : DrivenBy (driveHalf o half) s t := by
  obtain ⟨snap, rfl, hk⟩ := orNoSnapshot_eq_next.1 h
  obtain rfl := Host.Outcome.next.inj hk
  rfl

/-- Every operation leaves the line registers that the levels it drives leave (R241). -/
theorem exec_drivenBy {i : Instr} {s t : State} (h : exec i s = .next t) : DrivenBy (drives i s) s t := by
  cases i with
  | srSeqShift => exact execSrSeqShift_drivenBy h
  | srInit => exact execSrInit_drivenBy h
  | tmPhS1 | tmPhS2 | tmPhHi | tmPhLo | tmPhSf => exact Host.Outcome.next.inj h ▸ s.phase_drivenBy _ _
  | beOutDir | beOutBtn => exact orNoSnapshot_drivenBy h
  | snapWr =>
    obtain rfl := Host.Outcome.next.inj ((execSnapWr_eq s).symm.trans h)
    rfl
  | tmCommit =>
    obtain rfl := Host.Outcome.next.inj ((execTmCommit_eq s).symm.trans h)
    rfl
  | beEdge e =>
    obtain rfl := Host.Outcome.next.inj ((execBeEdge_eq e s).symm.trans h)
    rfl
  | srSeqWait =>
    obtain rfl := Host.Outcome.next.inj ((waitTakesTheTriggerOrStalls s).symm.trans h)
    split_ifs <;> rfl
  | srPollPop =>
    obtain rfl := Host.Outcome.next.inj ((pollTakesTheFrameOrChangesNothing s).symm.trans h)
    split_ifs <;> rfl
  | bootSelect =>
    obtain rfl := Host.Outcome.next.inj ((selectionFixesTheMode s).symm.trans h)
    split_ifs <;> rfl
  | srSeqLatch | srTrig | tmInit | tmDetectEnd | tmProbe | beIdle | beHold | beOutNone =>
    obtain rfl := Host.Outcome.next.inj h
    rfl

/-! ### The whole step of an agent (R224, R241) -/

/-- A word that runs drives what its operation drives. -/
theorem runWord_drivenBy {w : DecodeWord} {s t : State} (h : runWord exec w s = .next t) :
    DrivenBy (wordDrives w s) s t := by
  obtain ⟨i, hdec, hexec⟩ := runWord_eq_next h
  rw [wordDrives_of_decode w s i hdec]
  exact exec_drivenBy hexec

/-- The output half of a BE step drives what its operation drives (R223, R224). -/
theorem runOut_drivenBy {i : Instr} {s t : State} (h : runOut exec i s = .next t) : DrivenBy (outDrives i s) s t := by
  cases i with
  | beIdle => exact exec_drivenBy (i := .beOutNone 0b10#2 s.lines.sel) h
  | _ => exact runWord_drivenBy h

/-- The step of every agent leaves the line registers that the levels it drives leave (R241). -/
theorem runChoice_drivenBy {c : Choice} {s t : State} (h : runChoice exec c s = .next t) :
    DrivenBy (stepDrives c s) s t := by
  cases c with
  | env l =>
    obtain rfl := Host.Outcome.next.inj h
    rfl
  | seq =>
    cases hok : s.srOk with
    | true =>
      rw [stepDrives, if_pos hok]
      exact runWord_drivenBy ((runSeq_of_ok exec s hok).symm.trans h)
    | false =>
      obtain rfl := Host.Outcome.next.inj ((runSeq_of_not_ok exec s hok).symm.trans h)
      rw [stepDrives, if_neg (Bool.eq_false_iff.1 hok)]
      rfl
  | rdr => exact runWord_drivenBy h
  | be =>
    obtain ⟨i, u, hdec, hupdate, hout⟩ := runBe_eq_next h
    rw [stepDrives_be s u i hdec hupdate]
    exact (exec_drivenBy hupdate).append (runOut_drivenBy hout)

end Sys2Proof.Machine

namespace Sys2Proof.Safety

open Sys2Proof.Machine

/-- Settles O50, register by register. -/
theorem drivenLevelsGiveTheLineRegisters : Obligations.DrivenLevelsGiveTheLineRegisters := by
  refine ⟨fun i s t h => ?_, fun c s t h => ?_⟩
  · simpa only [DrivenBy, State.lineRegs, Prod.mk.injEq] using exec_drivenBy h
  · simpa only [DrivenBy, State.lineRegs, Prod.mk.injEq] using runChoice_drivenBy h

end Sys2Proof.Safety

/-! PROOFS. The exceptions family (60_exceptions.md): the desynchronised window (O44), the conditions (O47), and the host's
lines (O49). -/

namespace Sys2Proof.Machine

/-! ### Past the ports (R253, R294) -/

/-- The host has counted past the last port: the count is at least four and within its bound, the port its half (R218, R253). -/
def Desynchronised (s : State) : Prop :=
  4 ≤ s.cnt ∧ s.cnt ≤ s.params.cntSat ∧ s.port = s.cnt / 2

/-- Such a port has no snapshot (R223). -/
theorem Desynchronised.two_le_port {s : State} (h : Desynchronised s) : 2 ≤ s.port := by
  obtain ⟨hcnt, -, hport⟩ := h
  omega

/-- While the device is addressed, a BE step leaves it so: a transition counts up or stays at the bound (R218, R219). -/
theorem Desynchronised.busStep {s : State} (h : Desynchronised s) (hen : s.lines.en = false) : Desynchronised s.busStep := by
  obtain ⟨hcnt, hsat, hport⟩ := h
  have hne : ¬s.lines.en = true := Bool.eq_false_iff.1 hen
  have hbusCnt : s.busCnt = if s.lines.sel = s.prevSel then s.cnt else countEdge s.params s.cnt := if_neg hne
  have hbusPort : s.busPort = if s.lines.sel = s.prevSel then s.port else s.busCnt / 2 := if_neg hne
  show 4 ≤ s.busCnt ∧ s.busCnt ≤ s.params.cntSat ∧ s.busPort = s.busCnt / 2
  by_cases hsel : s.lines.sel = s.prevSel
  · rw [if_pos hsel] at hbusCnt hbusPort
    omega
  · rw [if_neg hsel, countEdge_eq_ite] at hbusCnt
    rw [if_neg hsel] at hbusPort
    split_ifs at hbusCnt <;> omega

/-- A BE step that leaves it so presents no data (R223, R224). -/
theorem busStep_out_of_desynchronised {s : State} (h : Desynchronised s.busStep) : s.busStep.out = noData :=
  if_pos (.inr h.two_le_port)

/-- A window of addressed states, one at least, leaves it so and presents no data, whatever the select levels. -/
theorem Desynchronised.run_hostWindow {l : Lines} {rest : List Choice} (levels : List Bool) {b : Bool} {s : State}
    (h : Desynchronised s) (hp : s.pending = Safety.hostWindow l (b :: levels) ++ rest) :
    ∃ t, core.run (2 * (levels.length + 1)) s = .next t ∧ Desynchronised t ∧ t.out = noData ∧
      t.params = s.params ∧ t.pending = rest := by
  rw [Safety.hostWindow, List.flatMap_cons, List.append_assoc] at hp
  have hnext : Desynchronised ({ s with
      pending := Safety.hostWindow l levels ++ rest, lines := { l with en := false, sel := b } } : State).busStep :=
    Desynchronised.busStep h rfl
  induction levels generalizing b s with
  | nil => exact ⟨_, run_host hp 0, hnext, busStep_out_of_desynchronised hnext, rfl, rfl⟩
  | cons c levels ih =>
    obtain ⟨t, hrun, ht⟩ := ih hnext (b := c) rfl (Desynchronised.busStep hnext rfl)
    exact ⟨t, (run_host hp _).trans hrun, ht⟩

/-- Settles O44. -/
theorem desynchronisedWindowShowsNoData : Obligations.DesynchronisedWindowShowsNoData := by
  intro levels s l rest hne hcnt hsat hport hp
  cases levels with
  | nil => exact absurd rfl hne
  | cons b levels =>
    have hs : Desynchronised s := ⟨hcnt, hsat, hport⟩
    obtain ⟨t, hrun, ht, hout, hparams, hrest⟩ := hs.run_hostWindow levels hp
    have hport2 := ht.two_le_port
    obtain ⟨htcnt, htsat, -⟩ := ht
    exact ⟨t, hrun, hout, hport2, htcnt, hparams ▸ htsat, hrest⟩

/-! ### The conditions (R250 to R253) -/

/-- `ResourceUnavailable`: SR.INIT without the sequencing resource (R251). -/
theorem raised_eq_resourceUnavailable {i : Instr} {s : State} :
    raised i s = some .resourceUnavailable ↔ i = .srInit ∧ s.params.seqAvailable = false := by
  cases i with
  | srInit =>
    rw [raised, Option.ite_none_left_eq_some, and_iff_left rfl, Bool.not_eq_true]
    exact (and_iff_right rfl).symm
  | _ => simp [raised]

/-- `ProtocolDesync`: BE.EDGE whose new port is the first that does not exist (R253). -/
theorem raised_eq_protocolDesync {i : Instr} {s : State} :
    raised i s = some .protocolDesync ↔ (∃ e, i = .beEdge e) ∧ min (s.cnt + 1) s.params.cntSat / 2 = 2 := by
  cases i with
  | beEdge e =>
    rw [raised, Option.ite_none_right_eq_some, and_iff_left rfl]
    exact (and_iff_right ⟨e, rfl⟩).symm
  | _ => simp [raised]

/-- Idle latches hold no pressed button (R184 a, R252). -/
theorem commitValue_of_latchesIdle {s : State} (h : latchesIdle s = true) : commitValue s = 0 := by
  simp only [latchesIdle, Bool.and_eq_true, beq_iff_eq] at h
  obtain ⟨⟨h1, h2⟩, hf⟩ := h
  exact idleLinesDecodeToAllReleased.2 s h1 h2 hf

/-- `ControllerAbsent`: a store of 0x000, by one of the two operations that store (R252, log 23). -/
theorem stores_zero_of_raised_controllerAbsent {i : Instr} {s : State} (h : raised i s = some .controllerAbsent) :
    (i = .tmCommit ∧ commitValue s = 0) ∨ (i = .snapWr ∧ snapValue s = 0) := by
  cases i with
  | tmCommit =>
    have hidle : latchesIdle s = true := by simpa [raised] using h
    exact .inl ⟨rfl, commitValue_of_latchesIdle hidle⟩
  | snapWr =>
    obtain ⟨hzero, -⟩ : snapValue s = 0 ∧ deint s.rdW (snapTarget s) = BitVec.allOnes srFrameClocks := by
      simpa [raised] using h
    exact .inr ⟨rfl, hzero⟩
  | _ => simp [raised] at h

/-- An operation that notes a condition completes: it is BE.EDGE or one of RDR, which all complete (R257). -/
theorem exec_completes_of_raised {i : Instr} {s : State} {c : Condition} (h : raised i s = some c) :
    ∃ t, exec i s = .next t := by
  cases c with
  | resourceUnavailable =>
    obtain ⟨rfl, -⟩ := raised_eq_resourceUnavailable.1 h
    exact exec_rdr_completes rfl s
  | controllerAbsent =>
    obtain ⟨rfl, -⟩ | ⟨rfl, -⟩ := stores_zero_of_raised_controllerAbsent h
    · exact exec_rdr_completes rfl s
    · exact exec_rdr_completes rfl s
  | protocolDesync =>
    obtain ⟨⟨e, rfl⟩, -⟩ := raised_eq_protocolDesync.1 h
    exact ⟨_, execBeEdge_eq e s⟩

/-- Settles O47, condition by condition. -/
theorem conditionsAreNotedAndStopNothing : Obligations.ConditionsAreNotedAndStopNothing :=
  fun _ _ => ⟨raised_eq_resourceUnavailable, raised_eq_protocolDesync, stores_zero_of_raised_controllerAbsent,
    fun _ => exec_completes_of_raised⟩

/-! ### The host's lines (R41, R262) -/

/-- The state with other levels on the two lines of the host (R41). -/
def State.withHostLines (s : State) (e x : Bool) : State :=
  { s with lines := { s.lines with en := e, sel := x } }

/-- An outcome with other levels on the host's lines of its next state, where it has one. -/
def hostLinesOfResult (e x : Bool) : Result → Result
  | .next t => .next (t.withHostLines e x)
  | .fault r => .fault r
  | .refused r => .refused r

/-- A phase samples the controllers' lines only (R172). -/
theorem State.phase_withHostLines (s : State) (e x l : Bool) (m : Latch) :
    (s.withHostLines e x).phase l m = (s.phase l m).withHostLines e x := by
  rw [State.phase_eq, State.phase_eq]
  rfl

/-- SR.SEQ.SHIFT at a slot, whichever it is (R144). -/
theorem execSrSeqShift_of_shift {s : State} {k : Fin srFrameClocks} (hpc : s.srPc = .shift k) : exec .srSeqShift s =
    if k = lastSlot then
      if s.srRxValid = true then .next s
      else .next { s.clockSlot.putFrame s.clockSlot.srIsr with srPc := .wait }
    else .next { s.clockSlot with srPc := .shift (k + 1) } := by
  rw [exec, execSrSeqShift, hpc]

/-- SR.SEQ.SHIFT samples the serial lines only, whether it shifts, delivers, stalls or stops (R144). -/
theorem execSrSeqShift_withHostLines (s : State) (e x : Bool) :
    exec .srSeqShift (s.withHostLines e x) = hostLinesOfResult e x (exec .srSeqShift s) := by
  cases hpc : s.srPc with
  | wait => rw [shiftOutsideTheFrameStops s (.inl hpc)]; exact shiftOutsideTheFrameStops _ (.inl hpc)
  | latch => rw [shiftOutsideTheFrameStops s (.inr hpc)]; exact shiftOutsideTheFrameStops _ (.inr hpc)
  | shift k =>
    rw [execSrSeqShift_of_shift hpc, apply_ite (hostLinesOfResult e x), apply_ite (hostLinesOfResult e x)]
    exact execSrSeqShift_of_shift (s := s.withHostLines e x) hpc

/-- An operation of SEQ or RDR neither reads nor writes the host's lines. -/
theorem exec_withHostLines {i : Instr} (hi : Safety.agentOf i ≠ .be) (s : State) (e x : Bool) :
    exec i (s.withHostLines e x) = hostLinesOfResult e x (exec i s) := by
  cases i with
  | srSeqShift => exact execSrSeqShift_withHostLines s e x
  | snapWr => exact (execSnapWr_eq _).trans (congrArg (hostLinesOfResult e x) (execSnapWr_eq s).symm)
  | tmCommit => exact (execTmCommit_eq _).trans (congrArg (hostLinesOfResult e x) (execTmCommit_eq s).symm)
  | tmPhS1 | tmPhS2 | tmPhHi | tmPhLo | tmPhSf => exact congrArg Host.Outcome.next (s.phase_withHostLines e x _ _)
  | srSeqWait | srInit | srPollPop | bootSelect =>
    simp only [exec, execSrSeqWait, execSrInit, execSrPollPop, execBootSelect, apply_ite (hostLinesOfResult e x)]
    rfl
  | srSeqLatch | srTrig | tmInit | tmDetectEnd | tmProbe => rfl
  | beIdle | beEdge | beHold | beOutDir | beOutBtn | beOutNone => exact absurd rfl hi

/-- Settles O49. -/
theorem hostLinesReachOnlyTheBusEmulator : Obligations.HostLinesReachOnlyTheBusEmulator :=
  fun _ s e x hi => exec_withHostLines hi s e x

end Sys2Proof.Machine
